-- ==== Sys2Proof/Word.lean ====
section
/-! DEFINITION. The widths of the block's values: bytes, 16-bit values, hertz and the operation
select (spec/00_scope.md R5, R6: every value is unsigned, bit 0 is the least significant). -/

namespace Sys2Proof

/-- One byte: a coordinate (`COORD_W` = 8), an opcode, a parameter byte (R5, R6). -/
abbrev Byte := BitVec 8

/-- Sixteen bits: a packed Colour16 (R36), a delay in ms (`DELAY_W`, D3), a peer coordinate (R47). -/
abbrev Half := BitVec 16

/-- A clock rate in hertz, `HZ_W` = 32 bits (R24, D3). -/
abbrev Hertz := BitVec 32

/-- The operation select of a host request, 4 bits (R112). -/
abbrev Sel := BitVec 4

end Sys2Proof
end

