-- ==== Sys2Proof/Machine/Latches.lean ====
section
/-! DEFINITION. The operand latches, the only storage the block has for operands
(spec/10_state.md R30). -/

namespace Sys2Proof.Machine

/-- The operand latches (R30): loaded when an operation is accepted, meaningless once it returns. -/
structure Latches where
  /-- `OP_SEL`: which host operation. -/
  opSel : Sel
  /-- `OP_X0`: `window.top_left.x`. -/
  opX0 : Byte
  /-- `OP_Y0`: `window.top_left.y`. -/
  opY0 : Byte
  /-- `OP_X1`: `window.bottom_right.x`. -/
  opX1 : Byte
  /-- `OP_Y1`: `window.bottom_right.y`. -/
  opY1 : Byte
  /-- `OP_COLOUR`: a packed Colour16. -/
  opColour : Half
  /-- `OP_FLAG`: the boolean argument. -/
  opFlag : Bool
  /-- `OP_HZ`: the frequency argument. -/
  opHz : Hertz
  /-- `OP_DATA`: the host data buffer. -/
  opData : List Byte
  /-- `OP_LEN`: the buffer's length (`LEN_W` is unbounded, D28). -/
  opLen : Nat
  /-- `FR_OPC`: the opcode of the frame being sent. -/
  frOpc : Byte
  /-- `FR_DELAY`: the delay of the frame being sent, in ms. -/
  frDelay : Half
  /-- `FR_DATA`: the parameter bytes of the frame being sent. -/
  frData : List Byte
deriving DecidableEq, Repr, Inhabited

end Sys2Proof.Machine
end

