-- ==== Sys2Proof/Syntax.lean ====
section
/-! DEFINITION. The block's two levels of instruction as data (spec/30_encoding.md): the value types
of the operands, the two forms in which a command is presented (a host request, a frame), and `Instr`,
one constructor for each row of spec/opcode_table.json. -/

namespace Sys2Proof

/-- A Point, an unsigned `(x, y)` pair (R35). -/
structure Point where
  x : Byte
  y : Byte
deriving DecidableEq, Repr, Inhabited

/-- A Rect, two Points with inclusive bounds (R35). Its invariant is `Rect.ordered`. -/
structure Rect where
  topLeft : Point
  bottomRight : Point
deriving DecidableEq, Repr, Inhabited

/-- The colour-mode enumeration (R104). -/
inductive ColourMode
  | bits12
  | bits16
  | bits18
  | unknown
deriving DecidableEq, Repr

/-- The direction of vertical refresh (R105). -/
inductive VerticalRefresh
  | topToBottom
  | bottomToTop
deriving DecidableEq, Repr

/-- The order of the colour channels (R105). -/
inductive ColourFormat
  | rgb
  | bgr
deriving DecidableEq, Repr

/-- The direction of horizontal refresh (R105). -/
inductive HorizontalRefresh
  | leftToRight
  | rightToLeft
deriving DecidableEq, Repr

/-- MdacConfig, the 8-bit record the memory-access-control byte carries (R105). -/
structure MdacConfig where
  addressMode : BitVec 3
  verticalRefresh : VerticalRefresh
  colourFormat : ColourFormat
  horizontalRefresh : HorizontalRefresh
  reserved : BitVec 2
deriving DecidableEq, Repr

/-- Which framer primitive sends a frame: `SendCommand` with its delay operand in ms (R130), or
`SendCommandAsync`, which has none (R134). -/
inductive Variant
  | sync (delay : Half)
  | async
deriving DecidableEq, Repr

/-- A host request: the record of the operation select and the operand fields (R112, R113).
`OP_LEN` is the length of `data`; fields an operation does not use are ignored. -/
structure HostRequest where
  opSel : Sel
  x0 : Byte := 0
  y0 : Byte := 0
  x1 : Byte := 0
  y1 : Byte := 0
  colour : Half := 0
  flag : Bool := false
  hz : Hertz := 0
  data : List Byte := []
deriving DecidableEq, Repr

/-- One call of the framer: the opcode byte, the parameter bytes that follow it on the wire (R90,
R91) and the primitive that sends them. -/
structure Frame where
  opc : Byte
  data : List Byte := []
  variant : Variant := .sync 0
deriving DecidableEq, Repr

/-- What can be presented to the block: a host request at its port, or, on the inner side of the
port, one call of the framer (R133; log 5). -/
inductive Packet
  | request (r : HostRequest)
  | frame (f : Frame)
deriving DecidableEq, Repr

/-- The instructions: the eight host operations (R112) and the ten wire commands (R93), one
constructor for each row of spec/opcode_table.json. A wire command is one frame sent by the framer,
so it carries the framer's delay operand (R130; log 6); the RAM write alone has an asynchronous form
(R90, R134). -/
inductive Instr
  | init
  | clearScreen (colour : Half)
  | sendPixelData (window : Rect) (data : List Byte)
  | sendPixelDataAsync (window : Rect) (data : List Byte)
  | setDrawWindow (window : Rect)
  | setDisplayEnabled (flag : Bool)
  | setSleep (flag : Bool)
  | setUpdateRate (hz : Hertz)
  | swreset (delay : Half)
  | slpin (delay : Half)
  | slpout (delay : Half)
  | dispoff (delay : Half)
  | dispon (delay : Half)
  | caset (x0 x1 : Byte) (delay : Half)
  | raset (y0 y1 : Byte) (delay : Half)
  | ramwr (data : List Byte) (variant : Variant)
  | madctl (cfg : Byte) (delay : Half)
  | colmod (cfg : Byte) (delay : Half)
deriving DecidableEq, Repr

end Sys2Proof
end

