-- ==== Sys2Proof/Config.lean ====
section
/-! DEFINITION. The implementation parameters of spec/00_scope.md R5, the operation select codes of
spec/30_encoding.md R112, and the values the spec leaves open, as constants with no body. -/

namespace Sys2Proof.Config

/-- `PANEL_W`, the panel width in pixels. -/
def panelW : Nat := 128

/-- `PANEL_H`, the panel height in pixels. -/
def panelH : Nat := 160

/-- `PIXEL_BYTES`, bytes per pixel on the wire. -/
def pixelBytes : Nat := 2

/-- `SPI_HZ_DEFAULT`, the clock rate `init` sets. -/
def spiHzDefault : Hertz := 8000000

/-- `T_RST_HI_MS`, hold after the reset pin is driven high. -/
def tRstHiMs : Half := 200

/-- `T_RST_LO_MS`, hold after the reset pin is driven low. -/
def tRstLoMs : Half := 200

/-- `T_SWRESET_MS`, wait after the software reset. -/
def tSwresetMs : Half := 150

/-- `T_SLPOUT_INIT_MS`, wait after sleep-out in `init`. -/
def tSlpoutInitMs : Half := 200

/-- `T_SLPIN_MS`, wait after `set_sleep(true)`. -/
def tSlpinMs : Half := 200

/-- `T_SLPOUT_MS`, wait after `set_sleep(false)`; the spec's decision D12 (log 11). -/
def tSlpoutMs : Half := 200

/-- `COLMODE_12`. -/
def colmode12 : Byte := 3

/-- `COLMODE_16`. -/
def colmode16 : Byte := 5

/-- `COLMODE_18`. -/
def colmode18 : Byte := 6

/-- `COLMODE_UNKNOWN`. -/
def colmodeUnknown : Byte := 7

/-- `MADCTL_DEFAULT`, the packed default MdacConfig byte; the spec's decision D5 (log 10). -/
def madctlDefault : Byte := 0x00

/-! The ten opcode bytes: defaults of the ST7735S command set, which the spec marks as general
knowledge (D4). PRESUMED, unsafe for a claim that names a byte value (log 7). -/

/-- `OPC_SWRESET`. -/
def opcSwreset : Byte := 0x01

/-- `OPC_SLPIN`. -/
def opcSlpin : Byte := 0x10

/-- `OPC_SLPOUT`. -/
def opcSlpout : Byte := 0x11

/-- `OPC_DISPOFF`. -/
def opcDispoff : Byte := 0x28

/-- `OPC_DISPON`. -/
def opcDispon : Byte := 0x29

/-- `OPC_CASET`. -/
def opcCaset : Byte := 0x2A

/-- `OPC_RASET`. -/
def opcRaset : Byte := 0x2B

/-- `OPC_RAMWR`. -/
def opcRamwr : Byte := 0x2C

/-- `OPC_MADCTL`. -/
def opcMadctl : Byte := 0x36

/-- `OPC_COLMOD`. -/
def opcColmod : Byte := 0x3A

/-- The ten opcodes the block emits (R93). -/
def opcodes : List Byte :=
  [opcSwreset, opcSlpin, opcSlpout, opcDispoff, opcDispon,
   opcCaset, opcRaset, opcRamwr, opcMadctl, opcColmod]

/-- `COLOUR_HI_FIRST`: a Colour16 goes out high byte first; the spec's decision D7 (log 8). -/
def colourHiFirst : Bool := true

/-- `RED_AT_TOP`: red is bits 15:11 of a Colour16; the spec's decision D6 (log 9). -/
def redAtTop : Bool := true

/-- `CHECK_RECT`: a request whose Rect breaks the invariant is refused (R215, D15; log 20). -/
def checkRect : Bool := true

/-! The operation select codes (R112; labels of the spec's own, D2, log 33). -/

/-- `OP_SEL` of `INIT`. -/
def selInit : Sel := 0

/-- `OP_SEL` of `CLEAR_SCREEN`. -/
def selClearScreen : Sel := 1

/-- `OP_SEL` of `SEND_PIXEL_DATA`. -/
def selSendPixelData : Sel := 2

/-- `OP_SEL` of `SEND_PIXEL_DATA_ASYNC`. -/
def selSendPixelDataAsync : Sel := 3

/-- `OP_SEL` of `SET_DRAW_WINDOW`. -/
def selSetDrawWindow : Sel := 4

/-- `OP_SEL` of `SET_DISPLAY_ENABLED`. -/
def selSetDisplayEnabled : Sel := 5

/-- `OP_SEL` of `SET_SLEEP`. -/
def selSetSleep : Sel := 6

/-- `OP_SEL` of `SET_UPDATE_RATE`. -/
def selSetUpdateRate : Sel := 7

/-- Free value: what the operand latches hold once the n-th operation has returned. The spec calls
them meaningless then (R30), so nothing constrains them (log 15). -/
opaque deadLatches : Nat → Machine.Latches

/-- `SPI_MODE`, OPEN (D23): the transport's clock polarity and phase. No rule reads it (log 29). -/
opaque spiMode : BitVec 2

/-- `SPI_MSB_FIRST`, OPEN (D23): the transport's bit order in a byte. No rule reads it (log 29). -/
opaque spiMsbFirst : Bool

/-- `FILL_ORDER`, OPEN (R64, D22, N14): the cells of its display memory that the peer fills, in order,
each with its value, for a memory-access-control byte, a draw window and the bytes of one data phase.
A data phase longer or shorter than the window may fill any cells or none: pixels beyond the window may
be dropped, wrap, or go elsewhere. DESIGN CHOICE: the shape of this constant, its three arguments and
16-bit cells (log 40). No rule reads it (log 29). -/
opaque fillOrder : Byte → Rect → List Byte → List (Point × Half)

end Sys2Proof.Config
end

