-- ==== Sys2Proof/Machine/Operands.lean ====
section
/-! DEFINITION. The operand forms and the integer arithmetic of the block: Rect and window sizes
(spec/10_state.md R34, R35; spec/42_window_address.md R174), Colour16, ColourMode and MdacConfig
(spec/30_encoding.md R104 to R109), the address-set parameter bytes (R65, R110). -/

namespace Sys2Proof.Machine

/-! ### Rect and window -/

/-- The Rect invariant `top_left.x ≤ bottom_right.x and top_left.y ≤ bottom_right.y` (R35). -/
def rectOrdered (r : Rect) : Bool :=
  decide (r.topLeft.x.toNat ≤ r.bottomRight.x.toNat)
    && decide (r.topLeft.y.toNat ≤ r.bottomRight.y.toNat)

/-- `WinW(r)`, 1 to 256 for an ordered Rect (R174). -/
def winW (r : Rect) : Nat := r.bottomRight.x.toNat - r.topLeft.x.toNat + 1

/-- `WinH(r)`, 1 to 256 for an ordered Rect (R174). -/
def winH (r : Rect) : Nat := r.bottomRight.y.toNat - r.topLeft.y.toNat + 1

/-- `WinPixels(r)` (R174). -/
def winPixels (r : Rect) : Nat := winW r * winH r

/-- `WinBytes(r)`, the number of data bytes the host owes for the window (R174). -/
def winBytes (r : Rect) : Nat := Config.pixelBytes * winPixels r

/-- `FULL_RECT` = `(0,0)-(PANEL_W - 1, PANEL_H - 1)` (R34). -/
def fullRect : Rect :=
  { topLeft := { x := 0, y := 0 }
    bottomRight := { x := BitVec.ofNat 8 (Config.panelW - 1)
                     y := BitVec.ofNat 8 (Config.panelH - 1) } }

/-- `PANEL_PIXELS` = `PANEL_W × PANEL_H` (R34). -/
def panelPixels : Nat := Config.panelW * Config.panelH

/-- `PANEL_BYTES` = `PIXEL_BYTES × PANEL_PIXELS` (R34). -/
def panelBytes : Nat := Config.pixelBytes * panelPixels

/-- A 16-bit value on the wire, high byte first (R65). -/
def beBytes (v : Half) : List Byte := [v.extractLsb' 8 8, v.extractLsb' 0 8]

/-- The parameter bytes of an address-set frame: each coordinate zero-extended to 16 bits and sent
high byte first, so `00 start 00 end` (R65, R91, R110). -/
def coordBytes (first last : Byte) : List Byte :=
  beBytes (first.zeroExtend 16) ++ beBytes (last.zeroExtend 16)

/-- `rep(n, l)`: the list `l` repeated `n` times end to end (R6). -/
def rep (n : Nat) (l : List Byte) : List Byte := (List.replicate n l).flatten

/-! ### Colour16 -/

/-- Packing three channels (R106): `c16[15:11] = red[4:0]`, `c16[10:5] = green[5:0]`,
`c16[4:0] = blue[4:0]`, the higher bits of each channel dropped (R107); with `RED_AT_TOP` false, red
and blue swap places. -/
def packColour (red green blue : Byte) : Half :=
  if Config.redAtTop then red.extractLsb' 0 5 ++ green.extractLsb' 0 6 ++ blue.extractLsb' 0 5
  else blue.extractLsb' 0 5 ++ green.extractLsb' 0 6 ++ red.extractLsb' 0 5

/-- The red channel of a Colour16 (R108). -/
def colourRed (c : Half) : Byte :=
  if Config.redAtTop then (c.extractLsb' 11 5).zeroExtend 8 else (c.extractLsb' 0 5).zeroExtend 8

/-- The green channel of a Colour16 (R108). -/
def colourGreen (c : Half) : Byte := (c.extractLsb' 5 6).zeroExtend 8

/-- The blue channel of a Colour16 (R108). -/
def colourBlue (c : Half) : Byte :=
  if Config.redAtTop then (c.extractLsb' 0 5).zeroExtend 8 else (c.extractLsb' 11 5).zeroExtend 8

/-- A Colour16 on the wire: `hi` then `lo` when `COLOUR_HI_FIRST` (R66, R109). -/
def colourBytes (c : Half) : List Byte :=
  if Config.colourHiFirst then beBytes c else (beBytes c).reverse

/-! ### ColourMode -/

/-- The code of a colour mode, zero-extended to the parameter byte (R104). -/
def colourModeByte : ColourMode → Byte
  | .bits12 => Config.colmode12
  | .bits16 => Config.colmode16
  | .bits18 => Config.colmode18
  | .unknown => Config.colmodeUnknown

/-- The byte is the code of the 16-bit mode, the only one the block sends (R45, R104). A model should
not offer a way to send another code (R122): 3 and 6 are codes the block never sends, 7 is a
placeholder, the rest have no meaning. -/
def colourModeLegal (cfg : Byte) : Bool := cfg == colourModeByte .bits16

/-! ### MdacConfig -/

/-- The code of `vertical_refresh` (R105). -/
def verticalCode : VerticalRefresh → BitVec 1
  | .topToBottom => 0
  | .bottomToTop => 1

/-- The code of `colour_format` (R105). -/
def formatCode : ColourFormat → BitVec 1
  | .rgb => 0
  | .bgr => 1

/-- The code of `horizontal_refresh` (R105). -/
def horizontalCode : HorizontalRefresh → BitVec 1
  | .leftToRight => 0
  | .rightToLeft => 1

/-- The packed MdacConfig byte: `address_mode` 7:5, `vertical_refresh` 4, `colour_format` 3,
`horizontal_refresh` 2, `reserved` 1:0 (R105, D5). -/
def packMdac (m : MdacConfig) : Byte :=
  m.addressMode ++ verticalCode m.verticalRefresh ++ formatCode m.colourFormat
    ++ horizontalCode m.horizontalRefresh ++ m.reserved

/-- The fields of an MdacConfig byte (R105). -/
def unpackMdac (b : Byte) : MdacConfig :=
  { addressMode := b.extractLsb' 5 3
    verticalRefresh := if b.getLsbD 4 then .bottomToTop else .topToBottom
    colourFormat := if b.getLsbD 3 then .bgr else .rgb
    horizontalRefresh := if b.getLsbD 2 then .rightToLeft else .leftToRight
    reserved := b.extractLsb' 0 2 }

/-- The default configuration: left to right, top to bottom, RGB (R105). -/
def mdacDefault : MdacConfig :=
  { addressMode := 0
    verticalRefresh := .topToBottom
    colourFormat := .rgb
    horizontalRefresh := .leftToRight
    reserved := 0 }

/-- The two `reserved` bits are 0 (R105, R121). -/
def mdacLegal (cfg : Byte) : Bool := (unpackMdac cfg).reserved == 0

end Sys2Proof.Machine
end

