-- ==== Sys2Proof/WellFormed.lean ====
section
/-! DEFINITION. When an instruction's operands form the value types of the spec: the Rect invariant
(spec/10_state.md R35, spec/60_exceptions.md R215), the reserved bits of MdacConfig
(spec/30_encoding.md R121), the colour-mode codes (R104, R122). -/

namespace Sys2Proof

open Machine

/-- The operands are values of the spec's types. A machine given others refuses them by name. -/
def wellFormed : Instr → Bool
  | .init => true
  | .clearScreen _ => true
  | .sendPixelData window _ => rectOrdered window
  | .sendPixelDataAsync window _ => rectOrdered window
  | .setDrawWindow window => rectOrdered window
  | .setDisplayEnabled _ => true
  | .setSleep _ => true
  | .setUpdateRate _ => true
  | .swreset _ => true
  | .slpin _ => true
  | .slpout _ => true
  | .dispoff _ => true
  | .dispon _ => true
  | .caset _ _ _ => true
  | .raset _ _ _ => true
  | .ramwr _ _ => true
  | .madctl cfg _ => mdacLegal cfg
  | .colmod cfg _ => colourModeLegal cfg

end Sys2Proof
end

