-- ==== Sys2Proof/Decode.lean ====
section
/-! DEFINITION. Decoding and encoding: a host request by its operation select
(spec/30_encoding.md R112, R113, R120), a frame by its opcode byte and the number of its parameter
bytes (R90 to R93); the encoder beside it; and the reading of an opcode-table word. -/

namespace Sys2Proof

open Machine

/-- Why a presented packet is no instruction. -/
inductive DecodeError
  /-- `OP_SEL` is 8 to 15, `BAD_OP` (R120, R214). -/
  | reservedSelect
  /-- The opcode byte is none of the ten (R94, R123). -/
  | unknownOpcode
  /-- The number of parameter bytes is not the format's (R91). -/
  | badParameterCount
  /-- An address-set frame whose coordinate high byte is not 0 (R65, R110). -/
  | highByteNotZero
  /-- An asynchronous frame of another command than RAMWR (R90, R115). -/
  | asyncNotRamwr
deriving DecidableEq, Repr

/-- The Rect in a request's four coordinate fields (R35, R113). -/
def requestRect (r : HostRequest) : Rect :=
  { topLeft := { x := r.x0, y := r.y0 }, bottomRight := { x := r.x1, y := r.y1 } }

/-- The host operation a request names (R112). -/
def decodeRequest (r : HostRequest) : Except DecodeError Instr :=
  if r.opSel = Config.selInit then .ok .init
  else if r.opSel = Config.selClearScreen then .ok (.clearScreen r.colour)
  else if r.opSel = Config.selSendPixelData then .ok (.sendPixelData (requestRect r) r.data)
  else if r.opSel = Config.selSendPixelDataAsync then
    .ok (.sendPixelDataAsync (requestRect r) r.data)
  else if r.opSel = Config.selSetDrawWindow then .ok (.setDrawWindow (requestRect r))
  else if r.opSel = Config.selSetDisplayEnabled then .ok (.setDisplayEnabled r.flag)
  else if r.opSel = Config.selSetSleep then .ok (.setSleep r.flag)
  else if r.opSel = Config.selSetUpdateRate then .ok (.setUpdateRate r.hz)
  else .error .reservedSelect

/-- Format `W0`: no parameter byte (R91). -/
def decodeW0 (build : Half → Instr) (data : List Byte) : Variant → Except DecodeError Instr
  | .async => .error .asyncNotRamwr
  | .sync delay =>
    match data with
    | [] => .ok (build delay)
    | _ => .error .badParameterCount

/-- Format `W1`: one configuration byte (R91). -/
def decodeW1 (build : Byte → Half → Instr) (data : List Byte) :
    Variant → Except DecodeError Instr
  | .async => .error .asyncNotRamwr
  | .sync delay =>
    match data with
    | [cfg] => .ok (build cfg delay)
    | _ => .error .badParameterCount

/-- Format `W4`: `00 start 00 end` (R91, R110). -/
def decodeW4 (build : Byte → Byte → Half → Instr) (data : List Byte) :
    Variant → Except DecodeError Instr
  | .async => .error .asyncNotRamwr
  | .sync delay =>
    match data with
    | [startHigh, first, endHigh, last] =>
      if startHigh = 0 ∧ endHigh = 0 then .ok (build first last delay)
      else .error .highByteNotZero
    | _ => .error .badParameterCount

/-- The wire command a frame is (R93); RAMWR, format `WN`, takes any number of bytes and both
primitives. -/
def decodeFrame (f : Frame) : Except DecodeError Instr :=
  if f.opc = Config.opcSwreset then decodeW0 .swreset f.data f.variant
  else if f.opc = Config.opcSlpin then decodeW0 .slpin f.data f.variant
  else if f.opc = Config.opcSlpout then decodeW0 .slpout f.data f.variant
  else if f.opc = Config.opcDispoff then decodeW0 .dispoff f.data f.variant
  else if f.opc = Config.opcDispon then decodeW0 .dispon f.data f.variant
  else if f.opc = Config.opcCaset then decodeW4 .caset f.data f.variant
  else if f.opc = Config.opcRaset then decodeW4 .raset f.data f.variant
  else if f.opc = Config.opcRamwr then .ok (.ramwr f.data f.variant)
  else if f.opc = Config.opcMadctl then decodeW1 .madctl f.data f.variant
  else if f.opc = Config.opcColmod then decodeW1 .colmod f.data f.variant
  else .error .unknownOpcode

/-- The instruction a presented packet is, or the reason it is none. -/
def decode : Packet → Except DecodeError Instr
  | .request r => decodeRequest r
  | .frame f => decodeFrame f

/-- The request of an operation on a window (R112, R113). -/
def windowRequest (sel : Sel) (window : Rect) (data : List Byte) : HostRequest :=
  { opSel := sel
    x0 := window.topLeft.x
    y0 := window.topLeft.y
    x1 := window.bottomRight.x
    y1 := window.bottomRight.y
    data := data }

/-- The packet that presents an instruction: the record of R112 for a host operation, the opcode and
parameter bytes of R91 and R93 for a wire command. -/
def encode : Instr → Packet
  | .init => .request { opSel := Config.selInit }
  | .clearScreen colour => .request { opSel := Config.selClearScreen, colour := colour }
  | .sendPixelData window data => .request (windowRequest Config.selSendPixelData window data)
  | .sendPixelDataAsync window data =>
    .request (windowRequest Config.selSendPixelDataAsync window data)
  | .setDrawWindow window => .request (windowRequest Config.selSetDrawWindow window [])
  | .setDisplayEnabled flag => .request { opSel := Config.selSetDisplayEnabled, flag := flag }
  | .setSleep flag => .request { opSel := Config.selSetSleep, flag := flag }
  | .setUpdateRate hz => .request { opSel := Config.selSetUpdateRate, hz := hz }
  | .swreset delay => .frame { opc := Config.opcSwreset, variant := .sync delay }
  | .slpin delay => .frame { opc := Config.opcSlpin, variant := .sync delay }
  | .slpout delay => .frame { opc := Config.opcSlpout, variant := .sync delay }
  | .dispoff delay => .frame { opc := Config.opcDispoff, variant := .sync delay }
  | .dispon delay => .frame { opc := Config.opcDispon, variant := .sync delay }
  | .caset x0 x1 delay =>
    .frame { opc := Config.opcCaset, data := coordBytes x0 x1, variant := .sync delay }
  | .raset y0 y1 delay =>
    .frame { opc := Config.opcRaset, data := coordBytes y0 y1, variant := .sync delay }
  | .ramwr data variant => .frame { opc := Config.opcRamwr, data := data, variant := variant }
  | .madctl cfg delay => .frame { opc := Config.opcMadctl, data := [cfg], variant := .sync delay }
  | .colmod cfg delay => .frame { opc := Config.opcColmod, data := [cfg], variant := .sync delay }

/-! ### Words of the opcode table -/

/-- Byte `k` of an instruction whose bits are `w`, bit 0 the least significant bit of byte 0. -/
def wordByte (w k : Nat) : Byte := BitVec.ofNat 8 (w / 256 ^ k)

/-- `n` bytes of an instruction from byte `k` on. -/
def wordBytes (w : Nat) : Nat → Nat → List Byte
  | _, 0 => []
  | k, n + 1 => wordByte w k :: wordBytes w (k + 1) n

/-- How many parameter bytes follow an opcode when the word has `nbits` bits: the format's number
(R91, R93), for RAMWR the whole bytes the word itself holds after the opcode. -/
def parameterCount (opc : Byte) (nbits : Nat) : Nat :=
  if opc = Config.opcCaset ∨ opc = Config.opcRaset then 4
  else if opc = Config.opcMadctl ∨ opc = Config.opcColmod then 1
  else if opc = Config.opcRamwr then nbits / 8 - 1
  else 0

/-- The packet an opcode-table word is, every bit above `nbits` being 0. A word of fewer than 8 bits
is a request's operation select. Of a longer word byte 0 is an opcode if it is one of the ten, else
an operation select if it is below 16, the bits of the request's operand fields being 0 (log 4). -/
def packetOfWord (nbits word : Nat) : Packet :=
  let w := word % 2 ^ nbits
  if 8 ≤ nbits ∧ wordByte w 0 ∈ Config.opcodes then
    .frame { opc := wordByte w 0
             data := wordBytes w 1 (parameterCount (wordByte w 0) nbits) }
  else if (wordByte w 0).toNat < 16 then
    .request { opSel := (wordByte w 0).truncate 4 }
  else
    .frame { opc := wordByte w 0 }

/-- The instruction the decoder reads from a word of spec/opcode_table.json. -/
def decodeTableWord (nbits w : Nat) : Option Instr :=
  match decode (packetOfWord nbits w) with
  | .ok i => some i
  | .error _ => none

end Sys2Proof
end

