-- ==== Sys2Proof/Machine/State.lean ====
section
/-! DEFINITION. The machine's state as plain data (spec/10_state.md R20 to R32), the event alphabet
(spec/00_scope.md R7), the moves of the agents (R11), the reasons a step can stop
(spec/60_exceptions.md R210 to R217) and the state after reset (spec/10_state.md R50). -/

namespace Sys2Proof.Machine

/-- The sequencer state (R21). -/
inductive DrvState
  | uninitialized
  | hardwareResetting
  | softwareResetting
  | configuring
  | active
deriving DecidableEq, Repr

/-- The level last driven on a pin: `U` (never driven since reset), 0 or 1 (R25). -/
inductive Level
  | undriven
  | low
  | high
deriving DecidableEq, Repr

/-- The events of the trace (R7). -/
inductive Event
  /-- `SPI_NEW`: the transport is constructed. -/
  | spiNew
  /-- `SPI_HZ(f)`: the transport's clock rate is set. -/
  | spiHz (f : Hertz)
  /-- `BL(b)`: the backlight pin is driven. -/
  | bl (b : Bool)
  /-- `RST(b)`: the reset pin is driven. -/
  | rst (b : Bool)
  /-- `CS(b)`: the LCD chip-select pin is driven. -/
  | cs (b : Bool)
  /-- `DC(b)`: the data/command-select pin is driven. -/
  | dc (b : Bool)
  /-- `TX(v)`: a byte is sent with a blocking primitive. -/
  | tx (v : Byte)
  /-- `ATX(l)`: a non-blocking transfer of the bytes `l` starts. -/
  | atx (l : List Byte)
  /-- `ADONE`: the transport invokes the completion callback. -/
  | adone
  /-- `WAIT(t)`: the block suspends for `t` milliseconds. -/
  | wait (t : Half)
  /-- `ENVCS(1)`: the environment, not the block, drives chip-select high. -/
  | envCs
deriving DecidableEq, Repr

/-- One move of an agent (R11): the host (or, on the inner side of its port, the sequencer) presents
a packet; the transfer engine steps; the environment's completion path deselects. -/
inductive Move
  | present (p : Packet)
  | engine
  | deselect
deriving DecidableEq, Repr

/-- The contract violations the model faults on (R210, R217). Both are safe: the block would go on,
and do something the source does not describe. -/
inductive Fault
  /-- `NOT_ACTIVE`, code 1 (R211): raised by every instruction but `init` while `drv_state` is not
  `Active`. Safe. -/
  | notActive
  /-- `ASYNC_OVERLAP`, code 2 (R212): raised by every instruction but `init` while a non-blocking
  transfer is in flight. Safe. -/
  | asyncOverlap
deriving DecidableEq, Repr

/-- The reasons a presented packet is not accepted. All are safe: nothing is emitted and no state
changes (R214). -/
inductive Refusal
  /-- An instruction with no meaning yet, raised by an arm of `exec`. Safe. -/
  | notModelled (mnemonic : String)
  /-- `BAD_OP`, code 4 (R214): raised by the step on a request whose `OP_SEL` is 8 to 15. Safe. -/
  | badOp
  /-- `BAD_RECT`, code 5 (R215): raised by the three operations with a window when the request's
  four coordinates break the Rect invariant. Safe. -/
  | badRect
  /-- The model's own (log 22): raised by the step on a frame that is none of the ten wire commands
  in its format (R91, R93, R94). Safe. -/
  | badFrame (reason : DecodeError)
  /-- Raised by COLMOD on every code but 5, the 16-bit mode: a model should not offer a way to send
  another (R45, R122, U7). The name is the model's own (log 22). Safe. -/
  | badColourMode
  /-- The model's own (R121, U6; log 22): raised by MADCTL on a byte whose reserved bits are not 0.
  Safe. -/
  | badMdac
deriving DecidableEq, Repr

/-- The state of the block, of the transfer engine and of the model's bookkeeping (R20). -/
structure State where
  /-- `drv_state` (R21). -/
  drvState : DrvState
  /-- `spi_present` (R23). -/
  spiPresent : Bool
  /-- `spi_hz` (R24). -/
  spiHz : Hertz
  /-- `pin_cs` (R25). -/
  pinCs : Level
  /-- `pin_dc` (R25). -/
  pinDc : Level
  /-- `pin_rst` (R25). -/
  pinRst : Level
  /-- `pin_bl` (R25). -/
  pinBl : Level
  /-- `async_busy` (R27). -/
  asyncBusy : Bool
  /-- `async_pending` (R28). -/
  asyncPending : List Byte
  /-- `cs_handoff` (R29). -/
  csHandoff : Bool
  /-- The operand latches (R30). -/
  latches : Latches
  /-- `fault` (R31). -/
  fault : Option Fault
  /-- The mark of a run that contains a refused request (R214). -/
  refusedSeen : Bool
  /-- `trace`, oldest event first (R32, R8). -/
  trace : List Event
  /-- The model's own: what the agents outside the block do next, first move first (R235; log 2). -/
  script : List Move
  /-- The model's own: how many operations have returned (log 15). -/
  retired : Nat
deriving DecidableEq, Repr

/-- The latches after reset: the spec says unspecified, never read before loaded (R50). DESIGN
CHOICE, all zero (log 14). -/
def Latches.reset : Latches :=
  { opSel := 0, opX0 := 0, opY0 := 0, opX1 := 0, opY1 := 0, opColour := 0, opFlag := false
    opHz := 0, opData := [], opLen := 0, frOpc := 0, frDelay := 0, frData := [] }

/-- The state after reset, which is the block's creation (R50, R240). `spiHz` is unspecified there:
DESIGN CHOICE 0 (log 13). -/
def State.reset : State :=
  { drvState := .uninitialized
    spiPresent := false
    spiHz := 0
    pinCs := .undriven
    pinDc := .undriven
    pinRst := .undriven
    pinBl := .undriven
    asyncBusy := false
    asyncPending := []
    csHandoff := false
    latches := Latches.reset
    fault := none
    refusedSeen := false
    trace := []
    script := []
    retired := 0 }

end Sys2Proof.Machine
end

