-- ==== Sys2Proof/Machine/Flags.lean ====
section
/-! DEFINITION. The one-bit conditions of the block and of the model (spec/10_state.md R21, R33;
spec/60_exceptions.md R211 to R217; spec/40_framer.md R136 to R139). The block has no arithmetic
flags. -/

namespace Sys2Proof.Machine

/-- The hardware code of `drv_state`, 3 bits; 5 to 7 never occur (R21, D11). -/
def drvCode : DrvState → BitVec 3
  | .uninitialized => 0
  | .hardwareResetting => 1
  | .softwareResetting => 2
  | .configuring => 3
  | .active => 4

/-- `is_active` (R33). -/
def isActive (s : State) : Bool := s.drvState == .active

/-- The request carries no Rect and is refused with `BAD_RECT`, unless `CHECK_RECT` is off (R215). -/
def rectRefused (r : Rect) : Bool := Config.checkRect && !rectOrdered r

/-- `LENGTH_MISMATCH`, code 3: a condition of a request with data, not a fault (R213). -/
def lengthMismatch (window : Rect) (data : List Byte) : Bool :=
  data.length != winBytes window

/-- `LENGTH_MISMATCH` of an instruction: it holds of the two buffer operations only (R213). -/
def instrLengthMismatch : Instr → Bool
  | .sendPixelData window data => lengthMismatch window data
  | .sendPixelDataAsync window data => lengthMismatch window data
  | _ => false

/-- The byte step of the transfer engine is enabled (R136). -/
def byteStepEnabled (s : State) : Bool := s.asyncBusy && !s.asyncPending.isEmpty

/-- The completion step of the transfer engine is enabled (R138). -/
def completionEnabled (s : State) : Bool := s.asyncBusy && s.asyncPending.isEmpty

/-- The environment deselect is enabled (R139). -/
def deselectEnabled (s : State) : Bool := s.csHandoff

/-- The code of a fault (R217). -/
def faultCode : Fault → Nat
  | .notActive => 1
  | .asyncOverlap => 2

/-- The code of `LENGTH_MISMATCH` (R217). -/
def lengthMismatchCode : Nat := 3

/-- The code of a refusal, for the two the spec numbers (R217). -/
def refusalCode : Refusal → Option Nat
  | .badOp => some 4
  | .badRect => some 5
  | _ => none

/-- A packet that is no instruction is refused by name: `BAD_OP` for a reserved select (R214), else
a bad frame. -/
def refusalOf : DecodeError → Refusal
  | .reservedSelect => .badOp
  | e => .badFrame e

end Sys2Proof.Machine
end

