-- ==== Sys2Proof/Machine/Ops.lean ====
section
/-! DEFINITION. The named operations over the state: emitting an event (spec/00_scope.md R8,
spec/10_state.md R25), loading the operand latches (R30), the two framer primitives
(spec/40_framer.md R130, R134), the transfer engine and the environment deselect (R136 to R139), the
admission checks (spec/60_exceptions.md R216) and the recording of an outcome (R210, R214).

There is no exception to take and none to return from: the block raises nothing and has no handler
(R210, R220, R221). The nearest thing to an entry is `completionStep`. -/

namespace Sys2Proof.Machine

/-! ### Events -/

/-- The level a drive leaves on a pin (R25). -/
def levelOf (b : Bool) : Level := if b then .high else .low

/-- The pins after an event: a drive records the level, even the level the pin already has
(R25, D10); every other event leaves the pins. -/
def drivePins (s : State) : Event → State
  | .cs b => { s with pinCs := levelOf b }
  | .dc b => { s with pinDc := levelOf b }
  | .rst b => { s with pinRst := levelOf b }
  | .bl b => { s with pinBl := levelOf b }
  | .envCs => { s with pinCs := .high }
  | .spiNew | .spiHz _ | .tx _ | .atx _ | .adone | .wait _ => s

/-- `Emit(e)`: append to the trace, and record the level of a driven pin (R8, R25). -/
def emit (e : Event) (s : State) : State :=
  { drivePins s e with trace := s.trace ++ [e] }

/-- `for i in 0 .. len(data)-1: Emit(TX(data[i]))` (R130 step 4, R62). -/
def emitBytes : List Byte → State → State
  | [], s => s
  | v :: rest, s => emitBytes rest (emit (.tx v) s)

/-! ### Operand latches -/

/-- Accept a request: `OP_SEL` is loaded (R30). -/
def loadSelect (sel : Sel) (s : State) : State :=
  { s with latches := { s.latches with opSel := sel } }

/-- Load the window of a request (R30, R35). -/
def loadWindow (r : Rect) (s : State) : State :=
  { s with latches := { s.latches with opX0 := r.topLeft.x, opY0 := r.topLeft.y
                                       opX1 := r.bottomRight.x, opY1 := r.bottomRight.y } }

/-- Load the colour of a request (R30). -/
def loadColour (c : Half) (s : State) : State :=
  { s with latches := { s.latches with opColour := c } }

/-- Load the boolean of a request (R30). -/
def loadFlag (b : Bool) (s : State) : State :=
  { s with latches := { s.latches with opFlag := b } }

/-- Load the frequency of a request (R30). -/
def loadHz (hz : Hertz) (s : State) : State :=
  { s with latches := { s.latches with opHz := hz } }

/-- Load the host data buffer and its length (R30, R113). -/
def loadData (data : List Byte) (s : State) : State :=
  { s with latches := { s.latches with opData := data, opLen := data.length } }

/-- Load the operands of a frame (R30, R130). -/
def loadFrame (opc : Byte) (delay : Half) (data : List Byte) (s : State) : State :=
  { s with latches := { s.latches with frOpc := opc, frDelay := delay, frData := data } }

/-- The Rect in the latches (R35). -/
def latchedWindow (s : State) : Rect :=
  { topLeft := { x := s.latches.opX0, y := s.latches.opY0 }
    bottomRight := { x := s.latches.opX1, y := s.latches.opY1 } }

/-- Reading `BUF`: the bytes of indices 0 to `OP_LEN - 1`, in order, unchanged (R61, R67, R185). -/
def bufBytes (s : State) : List Byte := s.latches.opData.take s.latches.opLen

/-- The operation returns: its latches are dead, so they take free values (R30; log 15). -/
def retire (s : State) : State :=
  { s with latches := Config.deadLatches s.retired, retired := s.retired + 1 }

/-! ### The framer -/

/-- Steps 1 to 3 of either primitive: select, command level, opcode, data level. The start of a
frame ends the hand-off of chip-select (R130, R134, R140; the order of the two drives is D9). -/
def commandPhase (s : State) : State :=
  let s1 := emit (.cs false) s
  let s2 := { s1 with csHandoff := false }
  let s3 := emit (.dc false) s2
  let s4 := emit (.tx s3.latches.frOpc) s3
  emit (.dc true) s4

/-- Step 6: a wait, only when the delay is greater than 0 (R130). -/
def delayPhase (s : State) : State :=
  if 0 < s.latches.frDelay.toNat then emit (.wait s.latches.frDelay) s else s

/-- `SendCommand(opc, delay, data)` (R130). -/
def sendCommand (opc : Byte) (delay : Half) (data : List Byte) (s : State) : State :=
  let s1 := commandPhase (loadFrame opc delay data s)
  let s2 := emitBytes s1.latches.frData s1
  delayPhase (emit (.cs true) s2)

/-- `SendCommandAsync(opc, data)` (R134): the frame is left open and the transfer in flight. It has
no delay operand, so `FR_DELAY` is loaded with the default 0. -/
def sendCommandAsync (opc : Byte) (data : List Byte) (s : State) : State :=
  let s1 := commandPhase (loadFrame opc 0 data s)
  let s2 := emit (.atx s1.latches.frData) s1
  { s2 with asyncBusy := true, asyncPending := s2.latches.frData }

/-- One frame by the primitive its variant names (R90). -/
def sendFrame (opc : Byte) (data : List Byte) (variant : Variant) (s : State) : State :=
  match variant with
  | .sync delay => sendCommand opc delay data s
  | .async => sendCommandAsync opc data s

/-- The events of a synchronous frame (R90). -/
def syncFrame (opc : Byte) (delay : Half) (data : List Byte) : List Event :=
  [.cs false, .dc false, .tx opc, .dc true] ++ data.map .tx ++ [.cs true]
    ++ (if 0 < delay.toNat then [.wait delay] else [])

/-- The events of an asynchronous frame (R90). -/
def asyncFrame (opc : Byte) (data : List Byte) : List Event :=
  [.cs false, .dc false, .tx opc, .dc true, .atx data]

/-! ### Transport -/

/-- Setting the transport's clock rate (R204, and `init` step 2, R152). -/
def setRate (hz : Hertz) (s : State) : State :=
  { emit (.spiHz hz) s with spiHz := hz }

/-- Transfer engine, byte step: the first pending byte goes out; the trace has it already (R136). -/
def byteStep (s : State) : State := { s with asyncPending := s.asyncPending.tail }

/-- Transfer engine, completion step: `ADONE`; the deselect passes to the completion path
(R138, R220). -/
def completionStep (s : State) : State :=
  { emit .adone s with asyncBusy := false, csHandoff := true }

/-- The transfer engine takes the step of its two that is enabled, if one is (R136, R138). -/
def engineMove (s : State) : State :=
  if byteStepEnabled s then byteStep s
  else if completionEnabled s then completionStep s
  else s

/-- The environment deselects, if it may (R139). -/
def deselectMove (s : State) : State :=
  if deselectEnabled s then { emit .envCs s with csHandoff := false } else s

/-! ### Admission and outcome -/

/-- Checks 4 to 6 of R216: `NOT_ACTIVE`, `ASYNC_OVERLAP`, else the operation runs, wholly. -/
def accept (run : State → State) (s : State) : Host.Outcome State Fault Refusal :=
  if isActive s then
    if s.asyncBusy then .fault .asyncOverlap else .next (run s)
  else .fault .notActive

/-- Check 3 of R216 before checks 4 to 6, for an operation with a window. -/
def acceptWindow (window : Rect) (run : State → State) (s : State) :
    Host.Outcome State Fault Refusal :=
  if rectRefused window then .refused .badRect else accept run s

/-- The move that comes next and the state with it taken from the script. With the script at its end
the transfer engine alone is left to move, so a transfer in flight completes (R138; log 2). -/
def takeMove (s : State) : Move × State :=
  match s.script with
  | [] => (.engine, s)
  | m :: rest => (m, { s with script := rest })

/-- The state in which an outcome leaves a run: a fault sets `fault` if it was empty and nothing
clears it (R210, R31); a refusal changes nothing but marks the run (R214). The move is consumed. -/
def recordOutcome (s : State) : Host.Outcome State Fault Refusal → State
  | .next t => t
  | .fault f => { (takeMove s).2 with fault := some (s.fault.getD f) }
  | .refused _ => { (takeMove s).2 with refusedSeen := true }

end Sys2Proof.Machine
end

