-- ==== Sys2Proof/Machine/DisplayControl.lean ====
section
/-! DEFINITION. Display control (spec/44_display_control.md): SET_DISPLAY_ENABLED, SET_SLEEP,
SET_UPDATE_RATE, and the wire commands DISPON, DISPOFF, SLPIN, SLPOUT. -/

namespace Sys2Proof.Machine

/-- SET_DISPLAY_ENABLED (R200): the matching opcode of the pair, no delay. -/
def execSetDisplayEnabled (flag : Bool) (s : State) : Host.Outcome State Fault Refusal :=
  accept
    (fun s =>
      let s1 := loadFlag flag (loadSelect Config.selSetDisplayEnabled s)
      retire (if s1.latches.opFlag then sendCommand Config.opcDispon 0 [] s1
              else sendCommand Config.opcDispoff 0 [] s1)) s

/-- SET_SLEEP (R202): sleep-in or sleep-out, each with its wait (D12 for sleep-out; log 11). -/
def execSetSleep (flag : Bool) (s : State) : Host.Outcome State Fault Refusal :=
  accept
    (fun s =>
      let s1 := loadFlag flag (loadSelect Config.selSetSleep s)
      retire (if s1.latches.opFlag then sendCommand Config.opcSlpin Config.tSlpinMs [] s1
              else sendCommand Config.opcSlpout Config.tSlpoutMs [] s1)) s

/-- SET_UPDATE_RATE (R204): any value is passed on unchanged (R205). -/
def execSetUpdateRate (hz : Hertz) (s : State) : Host.Outcome State Fault Refusal :=
  accept
    (fun s =>
      let s1 := loadHz hz (loadSelect Config.selSetUpdateRate s)
      retire (setRate s1.latches.opHz s1)) s

/-- SLPIN, format `W0` (R93, R130). -/
def execSlpin (delay : Half) (s : State) : Host.Outcome State Fault Refusal :=
  accept (fun s => retire (sendCommand Config.opcSlpin delay [] s)) s

/-- SLPOUT, format `W0` (R93, R130). -/
def execSlpout (delay : Half) (s : State) : Host.Outcome State Fault Refusal :=
  accept (fun s => retire (sendCommand Config.opcSlpout delay [] s)) s

/-- DISPOFF, format `W0` (R93, R130). -/
def execDispoff (delay : Half) (s : State) : Host.Outcome State Fault Refusal :=
  accept (fun s => retire (sendCommand Config.opcDispoff delay [] s)) s

/-- DISPON, format `W0` (R93, R130). -/
def execDispon (delay : Half) (s : State) : Host.Outcome State Fault Refusal :=
  accept (fun s => retire (sendCommand Config.opcDispon delay [] s)) s

end Sys2Proof.Machine
end

