-- ==== Sys2Proof/Machine/InitSequencer.lean ====
section
/-! DEFINITION. The initialisation sequencer (spec/41_init_sequencer.md): INIT and the three wire
commands only it sends, SWRESET, MADCTL and COLMOD. -/

namespace Sys2Proof.Machine

/-- The sequencer state moves (R21, R161). -/
def setDrvState (d : DrvState) (s : State) : State := { s with drvState := d }

/-- `init` step 2, transport bring-up (R152): `SPI_NEW`, then the default rate. -/
def initTransport (s : State) : State :=
  setRate Config.spiHzDefault { emit .spiNew s with spiPresent := true }

/-- `init` step 3, backlight (R153). -/
def initBacklight (s : State) : State := emit (.bl true) s

/-- `init` step 4, the hardware reset pulse (R154, R251). -/
def initHardwareReset (s : State) : State :=
  let s1 := emit (.rst true) (setDrvState .hardwareResetting s)
  let s2 := emit (.rst false) (emit (.wait Config.tRstHiMs) s1)
  emit (.rst true) (emit (.wait Config.tRstLoMs) s2)

/-- `init` step 5, software reset (R155). -/
def initSoftwareReset (s : State) : State :=
  sendCommand Config.opcSwreset Config.tSwresetMs [] (setDrvState .softwareResetting s)

/-- `init` step 6, pixel format (R156). -/
def initPixelFormat (s : State) : State :=
  sendCommand Config.opcColmod 0 [colourModeByte .bits16] (setDrvState .configuring s)

/-- `init` step 7, memory access (R157). -/
def initMemoryAccess (s : State) : State :=
  sendCommand Config.opcMadctl 0 [Config.madctlDefault] s

/-- `init` step 8, wake (R158). -/
def initWake (s : State) : State := sendCommand Config.opcSlpout Config.tSlpoutInitMs [] s

/-- `init` step 9, enable (R159). -/
def initEnable (s : State) : State := sendCommand Config.opcDispon 0 [] s

/-- `init` steps 2 to 10 (R150, R160). -/
def initSequence (s : State) : State :=
  setDrvState .active <| initEnable <| initWake <| initMemoryAccess <| initPixelFormat <|
    initSoftwareReset <| initHardwareReset <| initBacklight <| initTransport s

/-- INIT (R150). Step 1: in `Active` it changes no state at all (R151; log 16). It never faults
(R216 check 2). -/
def execInit (s : State) : Host.Outcome State Fault Refusal :=
  if isActive s then .next s
  else .next (retire (initSequence (loadSelect Config.selInit s)))

/-- SWRESET, format `W0` (R93, R130). -/
def execSwreset (delay : Half) (s : State) : Host.Outcome State Fault Refusal :=
  accept (fun s => retire (sendCommand Config.opcSwreset delay [] s)) s

/-- MADCTL, format `W1`: the byte is an MdacConfig, whose reserved bits must be 0 (R105, R121). -/
def execMadctl (cfg : Byte) (delay : Half) (s : State) : Host.Outcome State Fault Refusal :=
  if mdacLegal cfg then accept (fun s => retire (sendCommand Config.opcMadctl delay [cfg] s)) s
  else .refused .badMdac

/-- COLMOD, format `W1`: the byte is the 16-bit colour-mode code, no other is offered (R45, R122). -/
def execColmod (cfg : Byte) (delay : Half) (s : State) : Host.Outcome State Fault Refusal :=
  if colourModeLegal cfg then
    accept (fun s => retire (sendCommand Config.opcColmod delay [cfg] s)) s
  else .refused .badColourMode

end Sys2Proof.Machine
end

