-- ==== Sys2Proof/Machine/WindowAddress.lean ====
section
/-! DEFINITION. The window-address controller (spec/42_window_address.md): SET_DRAW_WINDOW and its
two wire commands, CASET and RASET. -/

namespace Sys2Proof.Machine

/-- The two address-set frames of a rectangle, columns first, neither with a delay (R170, R171). -/
def sendWindow (r : Rect) (s : State) : State :=
  sendCommand Config.opcRaset 0 (coordBytes r.topLeft.y r.bottomRight.y)
    (sendCommand Config.opcCaset 0 (coordBytes r.topLeft.x r.bottomRight.x) s)

/-- The events of the two address-set frames (R170). -/
def windowEvents (r : Rect) : List Event :=
  syncFrame Config.opcCaset 0 (coordBytes r.topLeft.x r.bottomRight.x)
    ++ syncFrame Config.opcRaset 0 (coordBytes r.topLeft.y r.bottomRight.y)

/-- The frames of the Rect in the latches (R170). -/
def sendLatchedWindow (s : State) : State := sendWindow (latchedWindow s) s

/-- SET_DRAW_WINDOW (R170). -/
def execSetDrawWindow (window : Rect) (s : State) : Host.Outcome State Fault Refusal :=
  acceptWindow window
    (fun s => retire (sendLatchedWindow (loadWindow window (loadSelect Config.selSetDrawWindow s)))) s

/-- CASET, format `W4` (R93, R110). -/
def execCaset (x0 x1 : Byte) (delay : Half) (s : State) : Host.Outcome State Fault Refusal :=
  accept (fun s => retire (sendCommand Config.opcCaset delay (coordBytes x0 x1) s)) s

/-- RASET, format `W4` (R93, R110). -/
def execRaset (y0 y1 : Byte) (delay : Half) (s : State) : Host.Outcome State Fault Refusal :=
  accept (fun s => retire (sendCommand Config.opcRaset delay (coordBytes y0 y1) s)) s

end Sys2Proof.Machine
end

