-- ==== Sys2Proof/Machine/PixelStream.lean ====
section
/-! DEFINITION. The pixel-stream mux (spec/43_pixel_stream.md): CLEAR_SCREEN, SEND_PIXEL_DATA,
SEND_PIXEL_DATA_ASYNC, and the wire command RAMWR they send. -/

namespace Sys2Proof.Machine

/-- The data phase of the mux setting `CONST`: the colour's two bytes, one pair for each pixel of
the panel (R180, R185). -/
def constPixels (c : Half) : List Byte := rep panelPixels (colourBytes c)

/-- CLEAR_SCREEN (R180): the full panel, whatever window was set before (R181). -/
def execClearScreen (colour : Half) (s : State) : Host.Outcome State Fault Refusal :=
  accept
    (fun s =>
      let s1 := sendWindow fullRect (loadColour colour (loadSelect Config.selClearScreen s))
      retire (sendCommand Config.opcRamwr 0 (constPixels s1.latches.opColour) s1)) s

/-- SEND_PIXEL_DATA (R183): mux setting `BUF_SYNC`. No check of the length (R184, R213). -/
def execSendPixelData (window : Rect) (data : List Byte) (s : State) :
    Host.Outcome State Fault Refusal :=
  acceptWindow window
    (fun s =>
      let s1 := sendLatchedWindow
        (loadData data (loadWindow window (loadSelect Config.selSendPixelData s)))
      retire (sendCommand Config.opcRamwr 0 (bufBytes s1) s1)) s

/-- SEND_PIXEL_DATA_ASYNC (R186): mux setting `BUF_ASYNC`, the payload taken by value (R79). -/
def execSendPixelDataAsync (window : Rect) (data : List Byte) (s : State) :
    Host.Outcome State Fault Refusal :=
  acceptWindow window
    (fun s =>
      let s1 := sendLatchedWindow
        (loadData data (loadWindow window (loadSelect Config.selSendPixelDataAsync s)))
      retire (sendCommandAsync Config.opcRamwr (bufBytes s1) s1)) s

/-- RAMWR, format `WN`, by either primitive (R90, R93). -/
def execRamwr (data : List Byte) (variant : Variant) (s : State) :
    Host.Outcome State Fault Refusal :=
  accept (fun s => retire (sendFrame Config.opcRamwr data variant s)) s

end Sys2Proof.Machine
end

