-- ==== Sys2Proof/Machine/Dispatch.lean ====
section
/-! DEFINITION. One arm for each constructor of `Instr`: the call of its meaning. -/

namespace Sys2Proof.Machine

def exec (i : Instr) (s : State) : Host.Outcome State Fault Refusal :=
  match i with
  -- the host operations (spec/30_encoding.md R112)
  | .init => Sys2Proof.Machine.execInit s
  | .clearScreen colour => Sys2Proof.Machine.execClearScreen colour s
  | .sendPixelData window data => Sys2Proof.Machine.execSendPixelData window data s
  | .sendPixelDataAsync window data => Sys2Proof.Machine.execSendPixelDataAsync window data s
  | .setDrawWindow window => Sys2Proof.Machine.execSetDrawWindow window s
  | .setDisplayEnabled flag => Sys2Proof.Machine.execSetDisplayEnabled flag s
  | .setSleep flag => Sys2Proof.Machine.execSetSleep flag s
  | .setUpdateRate hz => Sys2Proof.Machine.execSetUpdateRate hz s
  -- the wire commands (spec/30_encoding.md R93)
  | .swreset delay => Sys2Proof.Machine.execSwreset delay s
  | .slpin delay => Sys2Proof.Machine.execSlpin delay s
  | .slpout delay => Sys2Proof.Machine.execSlpout delay s
  | .dispoff delay => Sys2Proof.Machine.execDispoff delay s
  | .dispon delay => Sys2Proof.Machine.execDispon delay s
  | .caset x0 x1 delay => Sys2Proof.Machine.execCaset x0 x1 delay s
  | .raset y0 y1 delay => Sys2Proof.Machine.execRaset y0 y1 delay s
  | .ramwr data variant => Sys2Proof.Machine.execRamwr data variant s
  | .madctl cfg delay => Sys2Proof.Machine.execMadctl cfg delay s
  | .colmod cfg delay => Sys2Proof.Machine.execColmod cfg delay s

end Sys2Proof.Machine
end

