-- ==== Sys2Proof/Machine/Step.lean ====
section
/-! DEFINITION. One step of the machine: the next move of the script is taken, and the agent it
names moves (spec/00_scope.md R11, R13; spec/60_exceptions.md R216, R219). -/

namespace Sys2Proof.Machine

/-- A presented packet: decoded and run, or refused by name (R214, R216 check 1). -/
def presentPacket (p : Packet) (s : State) : Host.Outcome State Fault Refusal :=
  match decode p with
  | .ok i => exec i s
  | .error e => .refused (refusalOf e)

/-- One step. A recorded fault is never cleared and stops every later step (R31, R210). -/
def step (s : State) : Host.Outcome State Fault Refusal :=
  match s.fault with
  | some f => .fault f
  | none =>
    match takeMove s with
    | (.present p, t) => presentPacket p t
    | (.engine, t) => .next (engineMove t)
    | (.deselect, t) => .next (deselectMove t)

/-- One step of a run that goes on after a refusal and keeps a fault (R210, R214). -/
def advance (s : State) : State := recordOutcome s (step s)

/-- `n` steps of such a run. -/
def advanceN : Nat → State → State
  | 0, s => s
  | n + 1, s => advanceN n (advance s)

/-- The state in which the next step presents the instruction of an opcode-table word: the packet
stands at the head of the script (log 3, log 4). -/
def State.withFetchWord (s : State) (nbits w : Nat) : State :=
  { s with script := .present (packetOfWord nbits w) :: s.script }

end Sys2Proof.Machine
end

