-- ==== Sys2Proof/Machine/Views.lean ====
section
/-! DEFINITION. What is computed from a trace: the wire byte view and the frame view
(spec/00_scope.md R8), the peer registers (spec/10_state.md R44 to R49), the rate each byte is
clocked at (spec/20_memory.md R79) and the sum of the waits (spec/70_reset_and_hazards.md R252,
R262). The block keeps none of these. -/

namespace Sys2Proof.Machine

/-! ### Wire and frames -/

/-- The bytes an event puts on the wire (R8). -/
def wireOf : Event → List Byte
  | .tx v => [v]
  | .atx l => l
  | .spiNew | .spiHz _ | .bl _ | .rst _ | .cs _ | .dc _ | .adone | .wait _ | .envCs => []

/-- `Wire(tr)`: the bytes the peer receives (R8). -/
def wire (tr : List Event) : List Byte := tr.flatMap wireOf

/-- The wire bytes up to the next `DC(0)`. -/
def wireOfFrame : List Event → List Byte
  | [] => []
  | e :: rest => if e = .dc false then [] else wireOf e ++ wireOfFrame rest

/-- `Frames(tr)`: the wire byte view cut at every `DC(0)`, each frame an opcode byte and the
parameter bytes that follow it (R8). -/
def frames : List Event → List (Byte × List Byte)
  | [] => []
  | e :: rest =>
    if e = .dc false then
      match wireOfFrame rest with
      | [] => frames rest
      | opc :: params => (opc, params) :: frames rest
    else frames rest

/-! ### Peer registers -/

/-- The peer registers the block has written (R45 to R48). `none`: no frame has carried a value
since the peer's last reset, so the register has none to give (R44, R49, R50; log 28). -/
structure PeerRegs where
  /-- `P_COLMOD` (R45). -/
  colmod : Option Byte := none
  /-- `P_MADCTL` (R46). -/
  madctl : Option Byte := none
  /-- `P_XS` (R47). -/
  xs : Option Half := none
  /-- `P_XE` (R47). -/
  xe : Option Half := none
  /-- `P_YS` (R47). -/
  ys : Option Half := none
  /-- `P_YE` (R47). -/
  ye : Option Half := none
  /-- `P_SLEEP` (R48). -/
  sleep : Option Bool := none
  /-- `P_DISPON` (R48). -/
  dispon : Option Bool := none
deriving DecidableEq, Repr

/-- A completed frame writes the registers its opcode carries; the software reset leaves none with a
value (R44 to R49). -/
def PeerRegs.frame (p : PeerRegs) (opc : Byte) (params : List Byte) : PeerRegs :=
  if opc = Config.opcSwreset then {}
  else if opc = Config.opcSlpin then { p with sleep := some true }
  else if opc = Config.opcSlpout then { p with sleep := some false }
  else if opc = Config.opcDispoff then { p with dispon := some false }
  else if opc = Config.opcDispon then { p with dispon := some true }
  else
    match params with
    | [cfg] =>
      if opc = Config.opcMadctl then { p with madctl := some cfg }
      else if opc = Config.opcColmod then { p with colmod := some cfg }
      else p
    | [sh, sl, eh, el] =>
      if opc = Config.opcCaset then { p with xs := some (sh ++ sl), xe := some (eh ++ el) }
      else if opc = Config.opcRaset then { p with ys := some (sh ++ sl), ye := some (eh ++ el) }
      else p
    | _ => p

/-- The peer registers and the frame in progress: whether data/command select is low, the opcode
byte if it has been sent, the parameter bytes so far. -/
structure PeerView where
  regs : PeerRegs := {}
  command : Bool := false
  opc : Option Byte := none
  params : List Byte := []
deriving DecidableEq, Repr

/-- The frame in progress is complete (R44): it was closed by chip-select or by the end of its
non-blocking transfer. -/
def PeerView.complete (v : PeerView) : PeerView :=
  match v.opc with
  | none => v
  | some opc => { v with regs := v.regs.frame opc v.params, opc := none, params := [] }

/-- How the view follows one event. The reset pulse leaves no register with a value (R49). -/
def PeerView.event (v : PeerView) : Event → PeerView
  | .dc false => { v with command := true, opc := none, params := [] }
  | .dc true => { v with command := false }
  | .tx b =>
    if v.command then { v with opc := some b } else { v with params := v.params ++ [b] }
  | .atx l => { v with params := v.params ++ l }
  | .cs true => v.complete
  | .adone => v.complete
  | .rst false => {}
  | .cs false | .rst true | .spiNew | .spiHz _ | .bl _ | .wait _ | .envCs => v

/-- The view after a trace. -/
def peerView (tr : List Event) : PeerView := tr.foldl PeerView.event {}

/-- The peer registers after a trace (R44). -/
def peerRegs (tr : List Event) : PeerRegs := (peerView tr).regs

/-! ### Clock rate and waits -/

/-- The rate last set in a trace that began with the rate `f`. -/
def rateAfter : Option Hertz → List Event → Option Hertz
  | f, [] => f
  | _, .spiHz g :: rest => rateAfter (some g) rest
  | f, _ :: rest => rateAfter f rest

/-- Every wire byte with the rate it is clocked at: a new rate holds for the bytes after its
`SPI_HZ` and for none before it (R79, R205, R256). -/
def clocked : Option Hertz → List Event → List (Byte × Option Hertz)
  | _, [] => []
  | f, e :: rest => (wireOf e).map (fun b => (b, f)) ++ clocked (rateAfter f [e]) rest

/-- The sum of the waits in ms: a lower bound on the time a trace takes (R252, R262). -/
def waitTotal : List Event → Nat
  | [] => 0
  | .wait t :: rest => t.toNat + waitTotal rest
  | _ :: rest => waitTotal rest

end Sys2Proof.Machine
end

