-- ==== Sys2Proof/Safety.lean ====
section
/-! DEFINITION. The terms claims use: the invariants between operations (spec/10_state.md R52), the
framing properties of a trace (spec/40_framer.md R141), the end of a run (spec/60_exceptions.md
R235), and when two states agree but for the dead operand latches (spec/10_state.md R30). -/

namespace Sys2Proof.Safety

open Machine

/-! ### R52 -/

/-- The last frame of the trace was sent by the asynchronous framer and no `ENVCS(1)` has happened
since (R52 (e)): followed event by event. -/
def openAfter : Bool → Event → Bool
  | _, .dc false => false
  | _, .atx _ => true
  | _, .envCs => false
  | b, _ => b

/-- As `openAfter`, over a whole trace. -/
def lastFrameOpen (tr : List Event) : Bool := tr.foldl openAfter false

/-- The invariants of R52, (a) to (h), of a state between operations. -/
structure Inv (s : State) : Prop where
  /-- (a) -/
  activeDriven : s.drvState = .active →
    s.spiPresent = true ∧ s.pinRst = .high ∧ s.pinBl = .high
      ∧ s.pinCs ≠ .undriven ∧ s.pinDc ≠ .undriven
  /-- (b) -/
  uninitializedSilent : s.drvState = .uninitialized →
    s.trace = [] ∧ s.pinCs = .undriven ∧ s.pinDc = .undriven
      ∧ s.pinRst = .undriven ∧ s.pinBl = .undriven
  /-- (c) -/
  noMiddleState : s.drvState = .uninitialized ∨ s.drvState = .active
  /-- (d) -/
  activeDataLevel : s.drvState = .active → s.pinDc = .high
  /-- (e) -/
  activeSelect : s.drvState = .active →
    s.pinCs = levelOf (!lastFrameOpen s.trace)
  /-- (f) -/
  busyOpen : s.asyncBusy = true → s.pinCs = .low ∧ s.pinDc = .high
  /-- (g) -/
  handoffOpen : s.csHandoff = true → s.asyncBusy = false ∧ s.pinCs = .low
  /-- (h) -/
  pendingBusy : s.asyncPending ≠ [] → s.asyncBusy = true

/-! ### R141 -/

/-- Where a trace stands in the framing discipline of R141. -/
inductive Line
  /-- No frame open; the last event was no `CS(1)` and no `RST`. -/
  | idle
  /-- Just after `RST(b)`. -/
  | reset
  /-- Just after a `WAIT` that followed `RST(b)`: only another `RST` may come (R141 (h)). -/
  | hold
  /-- Just after `CS(0)`. -/
  | selected
  /-- Just after `DC(0)`: the opcode byte must come (R141 (a), (b)). -/
  | command
  /-- Just after the opcode byte: `DC(1)` must come. -/
  | opcode
  /-- The data phase. -/
  | data
  /-- Just after `CS(1)`: a wait may come (R141 (h)). -/
  | closed
  /-- Between an `ATX` and its `ADONE` (R141 (e)). -/
  | flight
  /-- After `ADONE`, chip-select still low (R141 (f)). -/
  | handed
deriving DecidableEq, Repr

/-- What may happen with no frame open and no wait due. -/
def Line.quiet : Event → Option Line
  | .spiNew => some .idle
  | .spiHz _ => some .idle
  | .bl _ => some .idle
  | .rst _ => some .reset
  | .cs b => if b then none else some .selected
  | .dc _ | .tx _ | .atx _ | .adone | .wait _ | .envCs => none

/-- What may happen just after an `RST`. -/
def Line.afterReset : Event → Option Line
  | .wait _ => some .hold
  | .cs b => if b then none else some .selected
  | .spiNew | .spiHz _ | .bl _ | .rst _ | .dc _ | .tx _ | .atx _ | .adone | .envCs => none

/-- What may happen just after a hold of the reset pulse. -/
def Line.afterHold : Event → Option Line
  | .rst _ => some .reset
  | .spiNew | .spiHz _ | .bl _ | .cs _ | .dc _ | .tx _ | .atx _ | .adone | .wait _ | .envCs => none

/-- What may happen just after `DC(0)`: one of the ten opcodes (R141 (g)). -/
def Line.afterCommand : Event → Option Line
  | .tx v => if v ∈ Config.opcodes then some .opcode else none
  | .spiNew | .spiHz _ | .bl _ | .rst _ | .cs _ | .dc _ | .atx _ | .adone | .wait _ | .envCs => none

/-- What may happen in the data phase. -/
def Line.inData : Event → Option Line
  | .tx _ => some .data
  | .cs b => if b then some .closed else none
  | .atx _ => some .flight
  | .spiNew | .spiHz _ | .bl _ | .rst _ | .dc _ | .adone | .wait _ | .envCs => none

/-- What may happen just after `CS(1)`. -/
def Line.afterClose : Event → Option Line
  | .wait _ => some .idle
  | e => Line.quiet e

/-- What may happen after `ADONE` while chip-select is still low. -/
def Line.afterDone : Event → Option Line
  | .envCs => some .idle
  | .spiHz _ => some .handed
  | .cs b => if b then none else some .selected
  | .spiNew | .bl _ | .rst _ | .dc _ | .tx _ | .atx _ | .adone | .wait _ => none

/-- The next place in the framing discipline, or none where R141 forbids the event. -/
def Line.next (l : Line) (e : Event) : Option Line :=
  match l with
  | .idle => Line.quiet e
  | .reset => Line.afterReset e
  | .hold => Line.afterHold e
  | .selected => if e = .dc false then some .command else none
  | .command => Line.afterCommand e
  | .opcode => if e = .dc true then some .data else none
  | .data => Line.inData e
  | .closed => Line.afterClose e
  | .flight => if e = .adone then some .handed else none
  | .handed => Line.afterDone e

/-- Following a trace from a place. -/
def lineFrom : Line → List Event → Option Line
  | l, [] => some l
  | l, e :: rest =>
    match l.next e with
    | none => none
    | some m => lineFrom m rest

/-- The trace keeps the framing discipline of R141, stands between two frames or in an open
asynchronous one, and `async_busy` and `cs_handoff` say which. -/
def Framed (s : State) : Prop :=
  ∃ l, lineFrom .idle s.trace = some l
    ∧ (l = .idle ∨ l = .closed ∨ l = .flight ∨ l = .handed)
    ∧ (s.asyncBusy = true ↔ l = .flight)
    ∧ (s.csHandoff = true ↔ l = .handed)

/-! ### R45 -/

/-- The peer's colour mode is 5 where it has a value, and the only frame a trace leaves in progress is
a RAM write (R45, R134): the only one the asynchronous framer sends. -/
def OnlySixteenBit (s : State) : Prop :=
  ((peerRegs s.trace).colmod = none ∨ (peerRegs s.trace).colmod = some Config.colmode16)
    ∧ ((peerView s.trace).opc = none ∨ (peerView s.trace).opc = some Config.opcRamwr)

/-! ### Runs -/

/-- A move is a host request or a frame. -/
def isPresentation : Move → Bool
  | .present _ => true
  | .engine => false
  | .deselect => false

/-- The run is over (R235): every request has been presented and has returned, nothing is in flight,
no fault, no refused request. -/
def RunOver (s : State) : Prop :=
  s.script.any isPresentation = false ∧ s.asyncBusy = false ∧ s.fault = none
    ∧ s.refusedSeen = false

/-- The event starts a non-blocking transfer. -/
def isStart : Event → Bool
  | .atx _ => true
  | .spiNew | .spiHz _ | .bl _ | .rst _ | .cs _ | .dc _ | .tx _ | .adone | .wait _ | .envCs => false

/-- How many transfers a trace has started. -/
def started (tr : List Event) : Nat := tr.countP isStart

/-- How many completions a trace has. -/
def completed (tr : List Event) : Nat := tr.count .adone

/-! ### Agreement but for the dead latches -/

/-- `t` is `u` in every field but the operand latches, which are dead between operations (R30), and
the model's own counter of returns. -/
def SameButLatches (t u : State) : Prop :=
  { t with latches := u.latches, retired := u.retired } = u

/-- The state a command leaves that sends synchronous frames only: the events are appended, chip-select
and data/command select end high, the hand-off is over (R130); nothing else changes. -/
def afterSync (events : List Event) (s : State) : State :=
  { s with trace := s.trace ++ events, pinCs := .high, pinDc := .high, csHandoff := false }

/-- The state a command leaves whose last frame is asynchronous (R134). -/
def afterAsync (events : List Event) (payload : List Byte) (s : State) : State :=
  { s with trace := s.trace ++ events, pinCs := .low, pinDc := .high, csHandoff := false
           asyncBusy := true, asyncPending := payload }

/-- The operation is admitted: `Active`, nothing in flight (R216 check 6). -/
def Ready (s : State) : Prop := s.drvState = .active ∧ s.asyncBusy = false

/-- `exec` answers a next state that is `u` but for the dead latches. -/
def Completes (i : Instr) (s u : State) : Prop :=
  ∃ t, exec i s = .next t ∧ SameButLatches t u

end Sys2Proof.Safety
end

