-- ==== Sys2Proof/Certificates/Slice0/Obligations.lean ====
section
/-! DEFINITION. The statements for the provers, each from the numbered rules of spec/. Where a
statement rests on a choice of the model, its docstring names the log entry. -/

open Sys2Proof Sys2Proof.Machine Sys2Proof.Safety

/-! ### Reset, stepping, decoding -/

/-- R50: the reset table; nothing is asked of `spi_hz` and the latches, which the spec leaves
unspecified. The peer registers have no value; the block does nothing until something is presented;
no step returns the block to `Uninitialized`; no completion while nothing is in flight. -/
def Obligations.ResetLeavesTheTabledValues : Prop :=
  State.reset.drvState = .uninitialized ∧ State.reset.spiPresent = false
    ∧ State.reset.pinCs = .undriven ∧ State.reset.pinDc = .undriven
    ∧ State.reset.pinRst = .undriven ∧ State.reset.pinBl = .undriven
    ∧ State.reset.asyncBusy = false ∧ State.reset.asyncPending = []
    ∧ State.reset.csHandoff = false ∧ State.reset.fault = none ∧ State.reset.trace = []
    ∧ peerRegs State.reset.trace = {}
    ∧ step State.reset = .next State.reset
    ∧ (∀ s t, s.drvState ≠ .uninitialized → step s = .next t → t.drvState ≠ .uninitialized)
    ∧ (∀ s, s.asyncBusy = false → engineMove s = s)

/-- The words of four rows, written from the encodings of spec/30_encoding.md (R91, R93, R112) with
the default opcode bytes, which are PRESUMED (log 7). -/
def Obligations.HandWrittenWordsDecode : Prop :=
  decodeTableWord 4 0b0101 = some (.setDisplayEnabled false)
    ∧ decodeTableWord 40 0x0B000A002A = some (.caset 0x0A 0x0B 0)
    ∧ decodeTableWord 16 0x053A = some (.colmod 0x05 0)
    ∧ decodeTableWord 32 0x3322112C = some (.ramwr [0x11, 0x22, 0x33] (.sync 0))
    ∧ decodeTableWord 8 0x09 = none

/-- A step whose next move presents a packet that decodes to `i` is `exec i` on the state with the
move taken from the script, and nothing else (log 2: the script is the model's). -/
def Obligations.StepRunsTheDecodedInstruction : Prop :=
  ∀ (s : State) (p : Packet) (rest : List Move) (i : Instr),
    s.fault = none → s.script = .present p :: rest → decode p = .ok i →
      step s = exec i { s with script := rest }

/-- Placing an opcode-table word makes the very next step run its instruction (log 3). -/
def Obligations.PlacedWordIsRunNext : Prop :=
  ∀ (s : State) (nbits w : Nat) (i : Instr),
    s.fault = none → decodeTableWord nbits w = some i →
      step (s.withFetchWord nbits w) = exec i s

/-- R112: which operation each select names and which operand fields it takes; the other fields are
ignored. -/
def Obligations.SelectNamesTheOperation : Prop :=
  ∀ r : HostRequest,
    (r.opSel = 0 → decode (.request r) = .ok .init)
      ∧ (r.opSel = 1 → decode (.request r) = .ok (.clearScreen r.colour))
      ∧ (r.opSel = 2 → decode (.request r) =
          .ok (.sendPixelData ⟨⟨r.x0, r.y0⟩, ⟨r.x1, r.y1⟩⟩ r.data))
      ∧ (r.opSel = 3 → decode (.request r) =
          .ok (.sendPixelDataAsync ⟨⟨r.x0, r.y0⟩, ⟨r.x1, r.y1⟩⟩ r.data))
      ∧ (r.opSel = 4 → decode (.request r) =
          .ok (.setDrawWindow ⟨⟨r.x0, r.y0⟩, ⟨r.x1, r.y1⟩⟩))
      ∧ (r.opSel = 5 → decode (.request r) = .ok (.setDisplayEnabled r.flag))
      ∧ (r.opSel = 6 → decode (.request r) = .ok (.setSleep r.flag))
      ∧ (r.opSel = 7 → decode (.request r) = .ok (.setUpdateRate r.hz))
      ∧ (8 ≤ r.opSel.toNat → decode (.request r) = .error .reservedSelect)

/-- R214: `BAD_OP`. The outcome is a refusal, the recorded state differs only by the mark (and by the
move taken from the model's script, log 2), and a run so marked is never over. -/
def Obligations.ReservedSelectIsRefused : Prop :=
  ∀ (s : State) (r : HostRequest) (rest : List Move),
    s.fault = none → s.script = .present (.request r) :: rest → 8 ≤ r.opSel.toNat →
      step s = .refused .badOp ∧ refusalCode .badOp = some 4
        ∧ advance s = { s with script := rest, refusedSeen := true }
        ∧ ¬ RunOver (advance s)

/-- R31: the first violation is recorded, nothing is emitted, and nothing ever clears it. -/
def Obligations.FirstFaultIsKept : Prop :=
  (∀ (s : State) (f : Fault), s.fault = none → step s = .fault f →
      (advance s).fault = some f ∧ (advance s).trace = s.trace)
    ∧ ∀ (n : Nat) (s : State) (f : Fault), s.fault = some f →
        (advanceN n s).fault = some f ∧ (advanceN n s).trace = s.trace
          ∧ step (advanceN n s) = .fault f

/-- Decode and encode agree on every instruction: no operand bit is dropped (the packet forms are
R91 and R112). -/
def Obligations.DecodeInvertsEncode : Prop :=
  ∀ i : Instr, decode (encode i) = .ok i

/-- Each frame that decodes is the frame of exactly the instruction it decodes to (R91, R93). -/
def Obligations.EncodeInvertsFrameDecode : Prop :=
  ∀ (f : Frame) (i : Instr), decode (.frame f) = .ok i → encode i = .frame f

/-! ### Operand arithmetic -/

/-- R107: channels are truncated, not saturated. -/
def Obligations.ColourChannelsAreTruncated : Prop :=
  (∀ red green blue : Byte,
      packColour red green blue
        = packColour (BitVec.ofNat 8 (red.toNat % 32)) (BitVec.ofNat 8 (green.toNat % 64))
            (BitVec.ofNat 8 (blue.toNat % 32)))
    ∧ ∀ red green blue : Byte,
        (colourRed (packColour red green blue)).toNat = red.toNat % 32
          ∧ (colourGreen (packColour red green blue)).toNat = green.toNat % 64
          ∧ (colourBlue (packColour red green blue)).toNat = blue.toNat % 32

/-- R108 (with `RED_AT_TOP` true, log 9): packing then unpacking returns legal channels, the fields do
not overlap, and every 16-bit value is a Colour16. -/
def Obligations.ColourPackingRoundTrips : Prop :=
  (∀ red green blue : Byte, red.toNat ≤ 31 → green.toNat ≤ 63 → blue.toNat ≤ 31 →
      colourRed (packColour red green blue) = red
        ∧ colourGreen (packColour red green blue) = green
        ∧ colourBlue (packColour red green blue) = blue)
    ∧ (∀ c : Half, packColour (colourRed c) (colourGreen c) (colourBlue c) = c)
    ∧ packColour 31 0 0 = 0xF800 ∧ packColour 0 63 0 = 0x07E0
    ∧ packColour 31 0 0 &&& packColour 0 63 0 = 0

/-- R105 (the layout is the spec's decision D5, log 10): the byte of a configuration whose reserved
bits are 0, the round trips, and the default byte. -/
def Obligations.MdacByteLayout : Prop :=
  (∀ m : MdacConfig, m.reserved = 0 →
      (packMdac m).toNat = m.addressMode.toNat * 32 + (verticalCode m.verticalRefresh).toNat * 16
        + (formatCode m.colourFormat).toNat * 8 + (horizontalCode m.horizontalRefresh).toNat * 4)
    ∧ (∀ m : MdacConfig, unpackMdac (packMdac m) = m)
    ∧ (∀ b : Byte, packMdac (unpackMdac b) = b)
    ∧ packMdac mdacDefault = Config.madctlDefault ∧ Config.madctlDefault = 0x00

/-- R174: window arithmetic in natural numbers and its bounds. -/
def Obligations.WindowArithmeticBounds : Prop :=
  (∀ r : Rect, r.topLeft.x.toNat ≤ r.bottomRight.x.toNat →
      r.topLeft.y.toNat ≤ r.bottomRight.y.toNat →
        winW r + r.topLeft.x.toNat = r.bottomRight.x.toNat + 1
          ∧ winH r + r.topLeft.y.toNat = r.bottomRight.y.toNat + 1
          ∧ winPixels r = winW r * winH r ∧ winBytes r = 2 * winPixels r
          ∧ 1 ≤ winW r ∧ winW r ≤ 256 ∧ 1 ≤ winH r ∧ winH r ≤ 256
          ∧ 1 ≤ winPixels r ∧ winPixels r ≤ 65536
          ∧ 2 ≤ winBytes r ∧ winBytes r ≤ 131072)
    ∧ winW fullRect = 128 ∧ winH fullRect = 160
    ∧ winPixels fullRect = 20480 ∧ winBytes fullRect = 40960
    ∧ panelPixels = 20480

/-! ### The framer, the transfer engine, the environment -/

/-- R130: the six steps, the pins they leave, the number of events, and the frame the peer reads. The
latches are dead afterwards, so nothing is said of them. -/
def Obligations.SynchronousFrame : Prop :=
  ∀ (opc : Byte) (delay : Half) (data : List Byte) (s : State),
    SameButLatches (sendCommand opc delay data s)
        (afterSync ([.cs false, .dc false, .tx opc, .dc true] ++ data.map .tx ++ [.cs true]
          ++ if 0 < delay.toNat then [.wait delay] else []) s)
      ∧ (sendCommand opc delay data s).trace.length
          = s.trace.length + 5 + data.length + (if 0 < delay.toNat then 1 else 0)
      ∧ frames (sendCommand opc delay data s).trace = frames s.trace ++ [(opc, data)]

/-- R134: steps 1 to 3, then a non-blocking transfer, and the frame left open. -/
def Obligations.AsynchronousFrame : Prop :=
  ∀ (opc : Byte) (data : List Byte) (s : State),
    SameButLatches (sendCommandAsync opc data s)
        (afterAsync [.cs false, .dc false, .tx opc, .dc true, .atx data] data s)
      ∧ frames (sendCommandAsync opc data s).trace = frames s.trace ++ [(opc, data)]
      ∧ (data = [] → completionEnabled (sendCommandAsync opc data s) = true)

/-- R136 and R138: the two steps of the transfer engine, each where it is enabled, and that without a
transfer in flight the engine does nothing. -/
def Obligations.TransferEngineSteps : Prop :=
  (∀ (s : State) (b : Byte) (rest : List Byte), s.asyncBusy = true → s.asyncPending = b :: rest →
      engineMove s = { s with asyncPending := rest })
    ∧ (∀ s : State, s.asyncBusy = true → s.asyncPending = [] →
        engineMove s = { s with trace := s.trace ++ [.adone], asyncBusy := false, csHandoff := true })
    ∧ ∀ s : State, s.asyncBusy = false → engineMove s = s

/-- R139 and R140: the deselect, where it is enabled, and that the start of any frame ends it. -/
def Obligations.EnvironmentDeselect : Prop :=
  (∀ s : State, s.csHandoff = true →
      deselectMove s = { s with trace := s.trace ++ [.envCs], pinCs := .high, csHandoff := false })
    ∧ (∀ s : State, s.csHandoff = false → deselectMove s = s)
    ∧ (∀ (opc : Byte) (delay : Half) (data : List Byte) (s : State),
        deselectMove (sendCommand opc delay data s) = sendCommand opc delay data s)
    ∧ ∀ (opc : Byte) (data : List Byte) (s : State),
        deselectMove (sendCommandAsync opc data s) = sendCommandAsync opc data s

/-- A transfer in flight is never abandoned (R138): with nothing else left to move, it ends after one
step a byte and one step more, with one `ADONE` (log 2 fixes that the engine moves then). -/
def Obligations.TransferRunsToCompletion : Prop :=
  ∀ s : State, s.fault = none → s.script = [] → s.asyncBusy = true →
    advanceN (s.asyncPending.length + 1) s
      = { s with trace := s.trace ++ [.adone], asyncBusy := false, asyncPending := []
                 csHandoff := true }

/-- R219: a ready completion and a ready request may come in either order, and so may the deselect
and a request. -/
def Obligations.EitherOrderOfCompletionAndRequest : Prop :=
  (∀ (s : State) (flag : Bool), s.fault = none → s.drvState = .active → s.asyncBusy = true →
      s.asyncPending = [] →
        step { s with script := [.present (encode (.setSleep flag)), .engine] }
            = .fault .asyncOverlap
          ∧ ∃ t, step { s with script := [.engine, .present (encode (.setSleep flag))] } = .next t
              ∧ ∃ u, step t = .next u ∧ u.script = [])
    ∧ ∀ (s : State) (flag : Bool), s.fault = none → s.drvState = .active → s.asyncBusy = false →
        s.csHandoff = true →
          (∃ t, step { s with script := [.deselect, .present (encode (.setSleep flag))] } = .next t
              ∧ t.pinCs = .high ∧ ∃ u, step t = .next u ∧ u.csHandoff = false)
            ∧ ∃ t, step { s with script := [.present (encode (.setSleep flag)), .deselect] } = .next t
              ∧ t.csHandoff = false ∧ ∃ u, step t = .next u ∧ u.trace = t.trace

/-! ### The host operations -/

/-- R150: a first `init` appends the 37 events and leaves the block `Active`; a later one does nothing.
The last clause says which sequencer state each step of the sequence leaves. -/
def Obligations.InitBringsUpTheBlock : Prop :=
  (∀ s : State, s.drvState ≠ .active →
      Completes .init s
        { s with
          drvState := .active, spiPresent := true, spiHz := 8000000
          pinCs := .high, pinDc := .high, pinRst := .high, pinBl := .high, csHandoff := false
          trace := s.trace ++
            [.spiNew, .spiHz 8000000, .bl true,
             .rst true, .wait 200, .rst false, .wait 200, .rst true,
             .cs false, .dc false, .tx Config.opcSwreset, .dc true, .cs true, .wait 150,
             .cs false, .dc false, .tx Config.opcColmod, .dc true, .tx 5, .cs true,
             .cs false, .dc false, .tx Config.opcMadctl, .dc true, .tx 0, .cs true,
             .cs false, .dc false, .tx Config.opcSlpout, .dc true, .cs true, .wait 200,
             .cs false, .dc false, .tx Config.opcDispon, .dc true, .cs true] })
    ∧ (∀ s : State, s.drvState = .active → exec .init s = .next s)
    ∧ ∀ s : State,
        (initTransport s).drvState = s.drvState ∧ (initBacklight s).drvState = s.drvState
          ∧ (initHardwareReset s).drvState = .hardwareResetting
          ∧ (initSoftwareReset s).drvState = .softwareResetting
          ∧ (initPixelFormat s).drvState = .configuring
          ∧ (initMemoryAccess s).drvState = s.drvState ∧ (initWake s).drvState = s.drvState
          ∧ (initEnable s).drvState = s.drvState
          ∧ (initSequence s).drvState = .active

/-- R151: the second of two `init` calls does nothing, in any state the first left. -/
def Obligations.InitTwiceIsInitOnce : Prop :=
  ∀ s : State, ∃ t, exec .init s = .next t ∧ exec .init t = .next t
    ∧ (s.drvState = .active → t = s)

/-- R170, R171: the 18 events, and when the operation is refused or faults instead. -/
def Obligations.SetDrawWindowSendsTwoFrames : Prop :=
  ∀ (r : Rect) (s : State),
    (r.topLeft.x.toNat ≤ r.bottomRight.x.toNat → r.topLeft.y.toNat ≤ r.bottomRight.y.toNat →
      (Ready s → Completes (.setDrawWindow r) s (afterSync
          [.cs false, .dc false, .tx Config.opcCaset, .dc true,
           .tx 0, .tx r.topLeft.x, .tx 0, .tx r.bottomRight.x, .cs true,
           .cs false, .dc false, .tx Config.opcRaset, .dc true,
           .tx 0, .tx r.topLeft.y, .tx 0, .tx r.bottomRight.y, .cs true] s))
        ∧ (s.drvState ≠ .active → exec (.setDrawWindow r) s = .fault .notActive)
        ∧ (s.drvState = .active → s.asyncBusy = true →
            exec (.setDrawWindow r) s = .fault .asyncOverlap))
      ∧ (r.bottomRight.x.toNat < r.topLeft.x.toNat ∨ r.bottomRight.y.toNat < r.topLeft.y.toNat →
          exec (.setDrawWindow r) s = .refused .badRect)

/-- R180: the full-panel window, then one RAM write of 20 480 copies of the colour's two bytes; and
when the operation faults instead. -/
def Obligations.ClearScreenFillsThePanel : Prop :=
  panelPixels = 20480 ∧ ∀ (c : Half) (s : State),
    (Ready s → Completes (.clearScreen c) s (afterSync
        ([.cs false, .dc false, .tx Config.opcCaset, .dc true,
          .tx 0, .tx 0, .tx 0, .tx 127, .cs true,
          .cs false, .dc false, .tx Config.opcRaset, .dc true,
          .tx 0, .tx 0, .tx 0, .tx 159, .cs true,
          .cs false, .dc false, .tx Config.opcRamwr, .dc true]
          ++ (List.replicate panelPixels [Event.tx (c.extractLsb' 8 8), .tx (c.extractLsb' 0 8)]).flatten
          ++ [.cs true]) s))
      ∧ (s.drvState ≠ .active → exec (.clearScreen c) s = .fault .notActive)
      ∧ (s.drvState = .active → s.asyncBusy = true →
          exec (.clearScreen c) s = .fault .asyncOverlap)

/-- R183: the window of the request, then one RAM write of exactly the bytes given, whatever their
number; and when the operation is refused or faults instead. -/
def Obligations.SendPixelDataStreamsTheBuffer : Prop :=
  ∀ (r : Rect) (data : List Byte) (s : State),
    (r.topLeft.x.toNat ≤ r.bottomRight.x.toNat → r.topLeft.y.toNat ≤ r.bottomRight.y.toNat →
      (Ready s → Completes (.sendPixelData r data) s (afterSync
          ([.cs false, .dc false, .tx Config.opcCaset, .dc true,
            .tx 0, .tx r.topLeft.x, .tx 0, .tx r.bottomRight.x, .cs true,
            .cs false, .dc false, .tx Config.opcRaset, .dc true,
            .tx 0, .tx r.topLeft.y, .tx 0, .tx r.bottomRight.y, .cs true,
            .cs false, .dc false, .tx Config.opcRamwr, .dc true]
            ++ data.map .tx ++ [.cs true]) s))
        ∧ (s.drvState ≠ .active → exec (.sendPixelData r data) s = .fault .notActive)
        ∧ (s.drvState = .active → s.asyncBusy = true →
            exec (.sendPixelData r data) s = .fault .asyncOverlap))
      ∧ (r.bottomRight.x.toNat < r.topLeft.x.toNat ∨ r.bottomRight.y.toNat < r.topLeft.y.toNat →
          exec (.sendPixelData r data) s = .refused .badRect)

/-- R186: the window synchronously, then the RAM write left open with its transfer in flight; when the
operation is refused or faults instead; and that the transfer then ends with one `ADONE`, after which
one `ENVCS(1)` may follow. -/
def Obligations.SendPixelDataAsyncLeavesTheFrameOpen : Prop :=
  (∀ (data : List Byte) (u : State), u.asyncBusy = true → u.asyncPending = data →
      engineMove^[data.length + 1] u
          = { u with trace := u.trace ++ [.adone], asyncBusy := false, asyncPending := []
                     csHandoff := true }
        ∧ deselectMove (engineMove^[data.length + 1] u)
          = { u with trace := u.trace ++ [.adone, .envCs], asyncBusy := false, asyncPending := []
                     pinCs := .high, csHandoff := false })
    ∧ ∀ (r : Rect) (data : List Byte) (s : State),
    (r.topLeft.x.toNat ≤ r.bottomRight.x.toNat → r.topLeft.y.toNat ≤ r.bottomRight.y.toNat →
      (Ready s → Completes (.sendPixelDataAsync r data) s (afterAsync
          [.cs false, .dc false, .tx Config.opcCaset, .dc true,
           .tx 0, .tx r.topLeft.x, .tx 0, .tx r.bottomRight.x, .cs true,
           .cs false, .dc false, .tx Config.opcRaset, .dc true,
           .tx 0, .tx r.topLeft.y, .tx 0, .tx r.bottomRight.y, .cs true,
           .cs false, .dc false, .tx Config.opcRamwr, .dc true, .atx data] data s))
        ∧ (s.drvState ≠ .active → exec (.sendPixelDataAsync r data) s = .fault .notActive)
        ∧ (s.drvState = .active → s.asyncBusy = true →
            exec (.sendPixelDataAsync r data) s = .fault .asyncOverlap))
      ∧ (r.bottomRight.x.toNat < r.topLeft.x.toNat ∨ r.bottomRight.y.toNat < r.topLeft.y.toNat →
          exec (.sendPixelDataAsync r data) s = .refused .badRect)

/-- R200: one frame, display-on for true and display-off for false, no delay. -/
def Obligations.SetDisplayEnabledSendsOneFrame : Prop :=
  ∀ (flag : Bool) (s : State),
    (Ready s → Completes (.setDisplayEnabled flag) s (afterSync
        [.cs false, .dc false, .tx (if flag then Config.opcDispon else Config.opcDispoff), .dc true,
         .cs true] s))
      ∧ (s.drvState ≠ .active → exec (.setDisplayEnabled flag) s = .fault .notActive)
      ∧ (s.drvState = .active → s.asyncBusy = true →
          exec (.setDisplayEnabled flag) s = .fault .asyncOverlap)

/-- R202: one frame, sleep-in for true and sleep-out for false, and a wait of 200 ms after it. -/
def Obligations.SetSleepSendsOneFrameAndWaits : Prop :=
  ∀ (flag : Bool) (s : State),
    (Ready s → Completes (.setSleep flag) s (afterSync
        [.cs false, .dc false, .tx (if flag then Config.opcSlpin else Config.opcSlpout), .dc true,
         .cs true, .wait 200] s))
      ∧ (s.drvState ≠ .active → exec (.setSleep flag) s = .fault .notActive)
      ∧ (s.drvState = .active → s.asyncBusy = true →
          exec (.setSleep flag) s = .fault .asyncOverlap)

/-- R204: one event, the rate recorded, nothing else changed, for every value of the operand. -/
def Obligations.SetUpdateRateSetsTheRate : Prop :=
  ∀ (hz : Hertz) (s : State),
    (Ready s → Completes (.setUpdateRate hz) s
        { s with trace := s.trace ++ [.spiHz hz], spiHz := hz })
      ∧ (s.drvState ≠ .active → exec (.setUpdateRate hz) s = .fault .notActive)
      ∧ (s.drvState = .active → s.asyncBusy = true →
          exec (.setUpdateRate hz) s = .fault .asyncOverlap)

/-! ### The wire commands, presented alone (log 5, log 6) -/

/-- The five commands with no parameter byte send one frame with the delay given (format `W0`). -/
def Obligations.ParameterlessCommandsSendOneFrame : Prop :=
  ∀ (delay : Half) (s : State), Ready s →
    Completes (.swreset delay) s (afterSync (syncFrame Config.opcSwreset delay []) s)
      ∧ Completes (.slpin delay) s (afterSync (syncFrame Config.opcSlpin delay []) s)
      ∧ Completes (.slpout delay) s (afterSync (syncFrame Config.opcSlpout delay []) s)
      ∧ Completes (.dispoff delay) s (afterSync (syncFrame Config.opcDispoff delay []) s)
      ∧ Completes (.dispon delay) s (afterSync (syncFrame Config.opcDispon delay []) s)

/-- The two address-set commands send `00 start 00 end` (format `W4`). -/
def Obligations.AddressSetCommandsSendFourBytes : Prop :=
  ∀ (first last : Byte) (delay : Half) (s : State), Ready s →
    Completes (.caset first last delay) s
        (afterSync (syncFrame Config.opcCaset delay [0, first, 0, last]) s)
      ∧ Completes (.raset first last delay) s
        (afterSync (syncFrame Config.opcRaset delay [0, first, 0, last]) s)

/-- The RAM write sends any bytes, by either primitive (format `WN`). -/
def Obligations.RamWriteSendsItsBytes : Prop :=
  ∀ (data : List Byte) (s : State), Ready s →
    (∀ delay : Half, Completes (.ramwr data (.sync delay)) s
        (afterSync (syncFrame Config.opcRamwr delay data) s))
      ∧ Completes (.ramwr data .async) s (afterAsync (asyncFrame Config.opcRamwr data) data s)

/-- The two configuration commands send their byte, and are refused by name, COLMOD on every code but
the 16-bit one (R45, R122), MADCTL on reserved bits that are not 0 (R121; format `W1`; log 22). -/
def Obligations.ConfigurationCommandsSendOneByte : Prop :=
  ∀ (cfg : Byte) (delay : Half) (s : State),
    (cfg = 5 → Ready s →
        Completes (.colmod cfg delay) s (afterSync (syncFrame Config.opcColmod delay [cfg]) s))
      ∧ (cfg ≠ 5 → exec (.colmod cfg delay) s = .refused .badColourMode)
      ∧ (cfg.toNat % 4 = 0 → Ready s →
          Completes (.madctl cfg delay) s (afterSync (syncFrame Config.opcMadctl delay [cfg]) s))
      ∧ (cfg.toNat % 4 ≠ 0 → exec (.madctl cfg delay) s = .refused .badMdac)

/-! ### Violations, refusals, the order of the checks -/

/-- R212: every operation but `init` overlaps a transfer in flight; `init` is exempt; the window closes
at `ADONE`, whether or not the environment has deselected. -/
def Obligations.OverlapWindowClosesAtCompletion : Prop :=
  (∀ s : State, s.drvState = .active → s.asyncBusy = true →
      (∀ c, exec (.clearScreen c) s = .fault .asyncOverlap)
        ∧ (∀ r data, rectOrdered r = true →
            exec (.sendPixelData r data) s = .fault .asyncOverlap
              ∧ exec (.sendPixelDataAsync r data) s = .fault .asyncOverlap
              ∧ exec (.setDrawWindow r) s = .fault .asyncOverlap)
        ∧ (∀ flag, exec (.setDisplayEnabled flag) s = .fault .asyncOverlap
            ∧ exec (.setSleep flag) s = .fault .asyncOverlap)
        ∧ (∀ hz, exec (.setUpdateRate hz) s = .fault .asyncOverlap)
        ∧ exec .init s = .next s)
    ∧ faultCode .asyncOverlap = 2
    ∧ ∀ s : State, s.drvState = .active → s.asyncBusy = true → s.asyncPending = [] →
        (engineMove s).csHandoff = true
          ∧ ∀ hz, ∃ t, exec (.setUpdateRate hz) (engineMove s) = .next t

/-- R211: every operation but `init` faults while the block is not `Active`. -/
def Obligations.OperationsNeedActive : Prop :=
  (∀ s : State, s.drvState ≠ .active →
      (∀ c, exec (.clearScreen c) s = .fault .notActive)
        ∧ (∀ r data, rectOrdered r = true →
            exec (.sendPixelData r data) s = .fault .notActive
              ∧ exec (.sendPixelDataAsync r data) s = .fault .notActive
              ∧ exec (.setDrawWindow r) s = .fault .notActive)
        ∧ (∀ flag, exec (.setDisplayEnabled flag) s = .fault .notActive
            ∧ exec (.setSleep flag) s = .fault .notActive)
        ∧ (∀ hz, exec (.setUpdateRate hz) s = .fault .notActive)
        ∧ ∃ t, exec .init s = .next t)
    ∧ faultCode .notActive = 1

/-- The order of the checks decides every outcome (R216; for the wire commands the same checks are the
model's, log 5, and their refusals log 22): a refusal exactly when the operands are ill-formed, a fault
exactly when the state does not accept the instruction, else a next state. -/
def Obligations.ChecksDecideTheOutcome : Prop :=
  ∀ (i : Instr) (s : State),
    ((∃ r, exec i s = .refused r) ↔ wellFormed i = false)
      ∧ (exec i s = .fault .notActive ↔
          i ≠ .init ∧ wellFormed i = true ∧ s.drvState ≠ .active)
      ∧ (exec i s = .fault .asyncOverlap ↔
          i ≠ .init ∧ wellFormed i = true ∧ s.drvState = .active ∧ s.asyncBusy = true)
      ∧ ((∃ t, exec i s = .next t) ↔ i = .init ∨ (wellFormed i = true ∧ Ready s))

/-- R213: the condition is no fault: under it the operation is done and sends exactly the bytes
given. -/
def Obligations.LengthMismatchIsNoFault : Prop :=
  lengthMismatchCode = 3 ∧
  ∀ (r : Rect) (data : List Byte) (s : State),
    (lengthMismatch r data = true ↔ data.length ≠ winBytes r)
      ∧ (instrLengthMismatch (.sendPixelData r data) = lengthMismatch r data
          ∧ instrLengthMismatch (.sendPixelDataAsync r data) = lengthMismatch r data)
      ∧ (rectOrdered r = true → Ready s → lengthMismatch r data = true →
          (∃ t, exec (.sendPixelData r data) s = .next t
              ∧ wire t.trace = wire s.trace
                  ++ [Config.opcCaset, 0, r.topLeft.x, 0, r.bottomRight.x,
                      Config.opcRaset, 0, r.topLeft.y, 0, r.bottomRight.y, Config.opcRamwr] ++ data)
            ∧ ∃ t, exec (.sendPixelDataAsync r data) s = .next t
              ∧ wire t.trace = wire s.trace
                  ++ [Config.opcCaset, 0, r.topLeft.x, 0, r.bottomRight.x,
                      Config.opcRaset, 0, r.topLeft.y, 0, r.bottomRight.y, Config.opcRamwr] ++ data)

/-! ### Frames: what an instruction leaves unchanged -/

/-- No instruction but `init` writes the sequencer state, the transport's handle, the reset and the
backlight pin; none writes the fault, the mark or the script; only SET_UPDATE_RATE writes the rate
and it drives no pin; only the asynchronous forms start a transfer (R20's column "written by"). The
block has no memory to leave unchanged (R60; log 31). -/
def Obligations.FrameOfEveryInstructionButInit : Prop :=
  ∀ (i : Instr) (s t : State), i ≠ .init → exec i s = .next t →
    t.drvState = s.drvState ∧ t.spiPresent = s.spiPresent
      ∧ t.pinRst = s.pinRst ∧ t.pinBl = s.pinBl
      ∧ t.fault = s.fault ∧ t.refusedSeen = s.refusedSeen ∧ t.script = s.script
      ∧ ((∀ hz, i ≠ .setUpdateRate hz) → t.spiHz = s.spiHz)
      ∧ ((∃ hz, i = .setUpdateRate hz) →
          t.pinCs = s.pinCs ∧ t.pinDc = s.pinDc ∧ t.csHandoff = s.csHandoff)
      ∧ ((∀ r data, i ≠ .sendPixelDataAsync r data) → (∀ data, i ≠ .ramwr data .async) →
          t.asyncBusy = s.asyncBusy ∧ t.asyncPending = s.asyncPending)

/-- `init` starts no transfer and writes neither the fault nor the mark nor the script (R20, R150). -/
def Obligations.FrameOfInit : Prop :=
  ∀ s t : State, exec .init s = .next t →
    t.asyncBusy = s.asyncBusy ∧ t.asyncPending = s.asyncPending
      ∧ t.fault = s.fault ∧ t.refusedSeen = s.refusedSeen ∧ t.script = s.script

/-- R32: the trace only grows, and no instruction reads it: with any other trace the same events are
appended and every other field ends the same. -/
def Obligations.TraceOnlyGrowsAndIsNotRead : Prop :=
  (∀ s t : State, step s = .next t → s.trace <+: t.trace)
    ∧ ∀ (i : Instr) (s t : State), exec i s = .next t →
        ∃ events, t.trace = s.trace ++ events
          ∧ ∀ tr, exec i { s with trace := tr } = .next { t with trace := tr ++ events }

/-- No instruction reads a latch it has not loaded (R30): whatever the dead latches hold, the outcome is
the same. `init` in `Active` is left out because it changes nothing, so it leaves them too (R151,
log 16). -/
def Obligations.DeadLatchesAreNotRead : Prop :=
  ∀ (i : Instr) (s : State) (l : Latches), (i ≠ .init ∨ s.drvState ≠ .active) →
    exec i { s with latches := l } = exec i s

/-- The clock rate changes no frame (R205 (c)): an instruction that does not set the rate does the same
at every rate and leaves it. -/
def Obligations.RateChangesNoFrame : Prop :=
  ∀ (i : Instr) (s t : State) (f : Hertz), i ≠ .init → (∀ hz, i ≠ .setUpdateRate hz) →
    exec i s = .next t → exec i { s with spiHz := f } = .next { t with spiHz := f }

/-! ### Invariants -/

/-- The invariants of this file hold after reset. -/
def Obligations.InvariantsHoldAtReset : Prop :=
  Inv State.reset ∧ Framed State.reset
    ∧ started State.reset.trace = completed State.reset.trace
    ∧ State.reset.trace.count .spiNew = 0 ∧ OnlySixteenBit State.reset

/-- Every step keeps the invariants between operations ((a) to (h) of section 12 of
spec/10_state.md, which the spec marks as derived). -/
def Obligations.StepKeepsTheInvariants : Prop :=
  ∀ s t : State, Inv s → step s = .next t → Inv t

/-- Every step keeps the framing discipline of the trace ((a) to (h) of section 4 of
spec/40_framer.md, which the spec marks as derived). -/
def Obligations.StepKeepsTheFraming : Prop :=
  ∀ s t : State, Inv s → Framed s → step s = .next t → Framed t

/-- Every transfer started has completed, but the one in flight: `ADONE` happens exactly once for each
`ATX` (R76 (d), R138). -/
def Obligations.EveryTransferCompletesOnce : Prop :=
  ∀ s t : State,
    started s.trace = completed s.trace + s.asyncBusy.toNat → step s = .next t →
      started t.trace = completed t.trace + t.asyncBusy.toNat

/-- `P_COLMOD` never holds another value than 5 (R45): no step, the wire commands presented alone
among them (log 5), sends another code. `none` is a register without a value (log 28). -/
def Obligations.PeerColourModeIsSixteenBit : Prop :=
  ∀ s t : State, OnlySixteenBit s → step s = .next t → OnlySixteenBit t

/-- The transport is created exactly once and not destroyed: the trace holds one `SPI_NEW` exactly when
the transport exists (R23, R152). -/
def Obligations.TransportIsCreatedOnce : Prop :=
  ∀ s t : State, Inv s → (s.drvState = .uninitialized → s.spiPresent = false) →
    s.trace.count .spiNew = s.spiPresent.toNat → step s = .next t →
      t.trace.count .spiNew = t.spiPresent.toNat
        ∧ (t.drvState = .uninitialized → t.spiPresent = false)
        ∧ (s.spiPresent = true → t.spiPresent = true)

/-- While the transport exists `spi_hz` is the rate of the last `SPI_HZ` event (R24). -/
def Obligations.RateIsTheLastSet : Prop :=
  ∀ s t : State, (s.spiPresent = true → rateAfter none s.trace = some s.spiHz) →
    step s = .next t → (t.spiPresent = true → rateAfter none t.trace = some t.spiHz)

/-- Only a presented `init` moves the sequencer state, and only to `Active` (R21). -/
def Obligations.OnlyInitMovesTheSequencer : Prop :=
  ∀ s t : State, step s = .next t → t.drvState ≠ s.drvState →
    t.drvState = .active
      ∧ ∃ p rest, s.script = .present p :: rest ∧ decode p = .ok .init

/-! ### What the peer has been sent -/

/-- The peer registers after a first `init` (R45, R46, R48; that a reset leaves no value is log 28). -/
def Obligations.PeerRegistersAfterInit : Prop :=
  ∀ s : State, s.drvState ≠ .active → ∃ t, exec .init s = .next t
    ∧ peerRegs t.trace = { colmod := some 5, madctl := some 0, sleep := some false
                           dispon := some true }

/-- R47: the peer's window after SET_DRAW_WINDOW is the window given, each coordinate with the high byte
0, and no other peer register changes. -/
def Obligations.PeerWindowFollowsTheRequest : Prop :=
  ∀ (r : Rect) (s : State), rectOrdered r = true → Ready s →
    ∃ t, exec (.setDrawWindow r) s = .next t
      ∧ peerRegs t.trace = { peerRegs s.trace with
          xs := some (0#8 ++ r.topLeft.x), xe := some (0#8 ++ r.bottomRight.x)
          ys := some (0#8 ++ r.topLeft.y), ye := some (0#8 ++ r.bottomRight.y) }

/-- After CLEAR_SCREEN the peer's window is the full panel, whatever it was, and no other peer register
changes (R181 (c)); the wire has carried 40 971 bytes more. -/
def Obligations.ClearScreenLeavesTheFullWindow : Prop :=
  ∀ (c : Half) (s : State), Ready s → ∃ t, exec (.clearScreen c) s = .next t
    ∧ peerRegs t.trace = { peerRegs s.trace with
        xs := some 0, xe := some 127, ys := some 0, ye := some 159 }
    ∧ (wire t.trace).length = (wire s.trace).length + 40971

/-- R49: neither kind of reset leaves a peer register with a value. -/
def Obligations.PeerResetLeavesNoValue : Prop :=
  (∀ (delay : Half) (s : State), Ready s →
      ∃ t, exec (.swreset delay) s = .next t ∧ peerRegs t.trace = {})
    ∧ ∀ tr : List Event, peerRegs (tr ++ [.rst false]) = {}

/-- Sleep and display commands write `P_SLEEP` and `P_DISPON` and nothing else of the peer (R48, R201,
R203). -/
def Obligations.SleepAndDisplayReachThePeer : Prop :=
  ∀ (flag : Bool) (s : State), Ready s →
    (∃ t, exec (.setSleep flag) s = .next t
        ∧ peerRegs t.trace = { peerRegs s.trace with sleep := some flag })
      ∧ ∃ t, exec (.setDisplayEnabled flag) s = .next t
        ∧ peerRegs t.trace = { peerRegs s.trace with dispon := some flag }

/-- R256: after SET_UPDATE_RATE every byte sent before another rate is set is clocked at the new rate,
and no byte before it is. -/
def Obligations.NewRateHoldsFromTheNextByte : Prop :=
  ∀ (hz : Hertz) (s t : State) (f : Option Hertz) (later : List Event),
    exec (.setUpdateRate hz) s = .next t → (∀ g, Event.spiHz g ∉ later) →
      clocked f (t.trace ++ later)
        = clocked f s.trace ++ (wire later).map (fun b => (b, some hz))

/-- The waits are a lower bound on the time an operation takes: 750 ms for a first `init`, 200 ms for
SET_SLEEP (R226, R250, R262). -/
def Obligations.WaitsOfInitAndSleep : Prop :=
  (∀ s : State, s.drvState ≠ .active →
      ∃ t, exec .init s = .next t ∧ waitTotal t.trace = waitTotal s.trace + 750)
    ∧ ∀ (flag : Bool) (s : State), Ready s →
        ∃ t, exec (.setSleep flag) s = .next t ∧ waitTotal t.trace = waitTotal s.trace + 200
end

