-- ==== Sys2Proof/Laws/Operands.lean ====
section
/-! SUPPORT. The operand arithmetic as numbers: the Colour16 fields, the parameter bytes of an
address-set frame, the length of a repeated list. -/

namespace Sys2Proof.Machine

/-- Appending bit vectors adds the upper part, shifted. -/
theorem toNat_append_add {m n : Nat} (x : BitVec m) (y : BitVec n) :
    (x ++ y).toNat = x.toNat * 2 ^ n + y.toNat := by
  rw [BitVec.toNat_append, ← Nat.shiftLeft_add_eq_or_of_lt y.isLt, Nat.shiftLeft_eq]

/-- A packed colour as a number: the low 5, 6 and 5 bits of the channels at 2048, 32 and 1. -/
theorem packColour_toNat (red green blue : Byte) :
    (packColour red green blue).toNat
      = red.toNat % 32 * 2048 + green.toNat % 64 * 32 + blue.toNat % 32 := by
  have h : (packColour red green blue).toNat
      = (red.extractLsb' 0 5 ++ green.extractLsb' 0 6 ++ blue.extractLsb' 0 5).toNat := rfl
  rw [h, toNat_append_add, toNat_append_add]
  simp only [BitVec.extractLsb'_toNat, Nat.shiftRight_zero]
  omega

/-- The red channel as a number. -/
theorem colourRed_toNat (c : Half) : (colourRed c).toNat = c.toNat / 2048 := by
  have h := c.isLt
  have e : colourRed c = (c.extractLsb' 11 5).zeroExtend 8 := rfl
  rw [e]
  simp [BitVec.extractLsb'_toNat, Nat.shiftRight_eq_div_pow]
  omega

/-- The green channel as a number. -/
theorem colourGreen_toNat (c : Half) : (colourGreen c).toNat = c.toNat / 32 % 64 := by
  simp [colourGreen, BitVec.extractLsb'_toNat, Nat.shiftRight_eq_div_pow]
  omega

/-- The blue channel as a number. -/
theorem colourBlue_toNat (c : Half) : (colourBlue c).toNat = c.toNat % 32 := by
  have e : colourBlue c = (c.extractLsb' 0 5).zeroExtend 8 := rfl
  rw [e]
  simp [BitVec.extractLsb'_toNat]
  omega

/-- The parameter bytes of an address-set frame, written out. -/
theorem coordBytes_eq (first last : Byte) : coordBytes first last = [0, first, 0, last] := by
  have h : ∀ b : Byte, beBytes (b.zeroExtend 16) = [0, b] := by
    intro b
    have hlt := b.isLt
    simp only [beBytes, List.cons.injEq, and_true]
    constructor <;>
      · apply BitVec.eq_of_toNat_eq
        simp [BitVec.extractLsb'_toNat, Nat.shiftRight_eq_div_pow]
        omega
  simp [coordBytes, h]

/-- The two bytes of a colour, high byte first (`COLOUR_HI_FIRST` is true). -/
theorem colourBytes_eq (c : Half) : colourBytes c = [c.extractLsb' 8 8, c.extractLsb' 0 8] := rfl

/-- The length of a list repeated. -/
theorem rep_length (n : Nat) (l : List Byte) : (rep n l).length = n * l.length := by
  simp [rep]

end Sys2Proof.Machine
end

