-- ==== Sys2Proof/Laws/State.lean ====
section
/-! SUPPORT. One lemma for each field after each update of the state, so that no later proof unfolds
an update. -/

namespace Sys2Proof.Machine

/-! ### Emitting an event -/

@[simp] theorem emit_drvState (e : Event) (s : State) : (emit e s).drvState = s.drvState := by
  cases e <;> rfl

@[simp] theorem emit_spiPresent (e : Event) (s : State) : (emit e s).spiPresent = s.spiPresent := by
  cases e <;> rfl

@[simp] theorem emit_spiHz (e : Event) (s : State) : (emit e s).spiHz = s.spiHz := by
  cases e <;> rfl

@[simp] theorem emit_asyncBusy (e : Event) (s : State) : (emit e s).asyncBusy = s.asyncBusy := by
  cases e <;> rfl

@[simp] theorem emit_asyncPending (e : Event) (s : State) : (emit e s).asyncPending = s.asyncPending := by
  cases e <;> rfl

@[simp] theorem emit_csHandoff (e : Event) (s : State) : (emit e s).csHandoff = s.csHandoff := by
  cases e <;> rfl

@[simp] theorem emit_latches (e : Event) (s : State) : (emit e s).latches = s.latches := by
  cases e <;> rfl

@[simp] theorem emit_fault (e : Event) (s : State) : (emit e s).fault = s.fault := by
  cases e <;> rfl

@[simp] theorem emit_refusedSeen (e : Event) (s : State) : (emit e s).refusedSeen = s.refusedSeen := by
  cases e <;> rfl

@[simp] theorem emit_trace (e : Event) (s : State) : (emit e s).trace = s.trace ++ [e] := rfl

@[simp] theorem emit_script (e : Event) (s : State) : (emit e s).script = s.script := by
  cases e <;> rfl

@[simp] theorem emit_retired (e : Event) (s : State) : (emit e s).retired = s.retired := by
  cases e <;> rfl

@[simp] theorem emit_spiNew_pinCs (s : State) : (emit .spiNew s).pinCs = s.pinCs := rfl

@[simp] theorem emit_spiNew_pinDc (s : State) : (emit .spiNew s).pinDc = s.pinDc := rfl

@[simp] theorem emit_spiNew_pinRst (s : State) : (emit .spiNew s).pinRst = s.pinRst := rfl

@[simp] theorem emit_spiNew_pinBl (s : State) : (emit .spiNew s).pinBl = s.pinBl := rfl

@[simp] theorem emit_spiHz_pinCs (f : Hertz) (s : State) : (emit (.spiHz f) s).pinCs = s.pinCs := rfl

@[simp] theorem emit_spiHz_pinDc (f : Hertz) (s : State) : (emit (.spiHz f) s).pinDc = s.pinDc := rfl

@[simp] theorem emit_spiHz_pinRst (f : Hertz) (s : State) : (emit (.spiHz f) s).pinRst = s.pinRst := rfl

@[simp] theorem emit_spiHz_pinBl (f : Hertz) (s : State) : (emit (.spiHz f) s).pinBl = s.pinBl := rfl

@[simp] theorem emit_bl_pinCs (b : Bool) (s : State) : (emit (.bl b) s).pinCs = s.pinCs := rfl

@[simp] theorem emit_bl_pinDc (b : Bool) (s : State) : (emit (.bl b) s).pinDc = s.pinDc := rfl

@[simp] theorem emit_bl_pinRst (b : Bool) (s : State) : (emit (.bl b) s).pinRst = s.pinRst := rfl

@[simp] theorem emit_bl_pinBl (b : Bool) (s : State) : (emit (.bl b) s).pinBl = levelOf b := rfl

@[simp] theorem emit_rst_pinCs (b : Bool) (s : State) : (emit (.rst b) s).pinCs = s.pinCs := rfl

@[simp] theorem emit_rst_pinDc (b : Bool) (s : State) : (emit (.rst b) s).pinDc = s.pinDc := rfl

@[simp] theorem emit_rst_pinRst (b : Bool) (s : State) : (emit (.rst b) s).pinRst = levelOf b := rfl

@[simp] theorem emit_rst_pinBl (b : Bool) (s : State) : (emit (.rst b) s).pinBl = s.pinBl := rfl

@[simp] theorem emit_cs_pinCs (b : Bool) (s : State) : (emit (.cs b) s).pinCs = levelOf b := rfl

@[simp] theorem emit_cs_pinDc (b : Bool) (s : State) : (emit (.cs b) s).pinDc = s.pinDc := rfl

@[simp] theorem emit_cs_pinRst (b : Bool) (s : State) : (emit (.cs b) s).pinRst = s.pinRst := rfl

@[simp] theorem emit_cs_pinBl (b : Bool) (s : State) : (emit (.cs b) s).pinBl = s.pinBl := rfl

@[simp] theorem emit_dc_pinCs (b : Bool) (s : State) : (emit (.dc b) s).pinCs = s.pinCs := rfl

@[simp] theorem emit_dc_pinDc (b : Bool) (s : State) : (emit (.dc b) s).pinDc = levelOf b := rfl

@[simp] theorem emit_dc_pinRst (b : Bool) (s : State) : (emit (.dc b) s).pinRst = s.pinRst := rfl

@[simp] theorem emit_dc_pinBl (b : Bool) (s : State) : (emit (.dc b) s).pinBl = s.pinBl := rfl

@[simp] theorem emit_tx_pinCs (v : Byte) (s : State) : (emit (.tx v) s).pinCs = s.pinCs := rfl

@[simp] theorem emit_tx_pinDc (v : Byte) (s : State) : (emit (.tx v) s).pinDc = s.pinDc := rfl

@[simp] theorem emit_tx_pinRst (v : Byte) (s : State) : (emit (.tx v) s).pinRst = s.pinRst := rfl

@[simp] theorem emit_tx_pinBl (v : Byte) (s : State) : (emit (.tx v) s).pinBl = s.pinBl := rfl

@[simp] theorem emit_atx_pinCs (l : List Byte) (s : State) : (emit (.atx l) s).pinCs = s.pinCs := rfl

@[simp] theorem emit_atx_pinDc (l : List Byte) (s : State) : (emit (.atx l) s).pinDc = s.pinDc := rfl

@[simp] theorem emit_atx_pinRst (l : List Byte) (s : State) : (emit (.atx l) s).pinRst = s.pinRst := rfl

@[simp] theorem emit_atx_pinBl (l : List Byte) (s : State) : (emit (.atx l) s).pinBl = s.pinBl := rfl

@[simp] theorem emit_adone_pinCs (s : State) : (emit .adone s).pinCs = s.pinCs := rfl

@[simp] theorem emit_adone_pinDc (s : State) : (emit .adone s).pinDc = s.pinDc := rfl

@[simp] theorem emit_adone_pinRst (s : State) : (emit .adone s).pinRst = s.pinRst := rfl

@[simp] theorem emit_adone_pinBl (s : State) : (emit .adone s).pinBl = s.pinBl := rfl

@[simp] theorem emit_wait_pinCs (t : Half) (s : State) : (emit (.wait t) s).pinCs = s.pinCs := rfl

@[simp] theorem emit_wait_pinDc (t : Half) (s : State) : (emit (.wait t) s).pinDc = s.pinDc := rfl

@[simp] theorem emit_wait_pinRst (t : Half) (s : State) : (emit (.wait t) s).pinRst = s.pinRst := rfl

@[simp] theorem emit_wait_pinBl (t : Half) (s : State) : (emit (.wait t) s).pinBl = s.pinBl := rfl

@[simp] theorem emit_envCs_pinCs (s : State) : (emit .envCs s).pinCs = .high := rfl

@[simp] theorem emit_envCs_pinDc (s : State) : (emit .envCs s).pinDc = s.pinDc := rfl

@[simp] theorem emit_envCs_pinRst (s : State) : (emit .envCs s).pinRst = s.pinRst := rfl

@[simp] theorem emit_envCs_pinBl (s : State) : (emit .envCs s).pinBl = s.pinBl := rfl

@[simp] theorem levelOf_true : levelOf true = .high := rfl

@[simp] theorem levelOf_false : levelOf false = .low := rfl

/-! ### Loading the latches, returning, moving the sequencer -/

@[simp] theorem loadSelect_drvState (x : Sel) (s : State) :
    (loadSelect x s).drvState = s.drvState := rfl

@[simp] theorem loadSelect_spiPresent (x : Sel) (s : State) :
    (loadSelect x s).spiPresent = s.spiPresent := rfl

@[simp] theorem loadSelect_spiHz (x : Sel) (s : State) : (loadSelect x s).spiHz = s.spiHz := rfl

@[simp] theorem loadSelect_pinCs (x : Sel) (s : State) : (loadSelect x s).pinCs = s.pinCs := rfl

@[simp] theorem loadSelect_pinDc (x : Sel) (s : State) : (loadSelect x s).pinDc = s.pinDc := rfl

@[simp] theorem loadSelect_pinRst (x : Sel) (s : State) : (loadSelect x s).pinRst = s.pinRst := rfl

@[simp] theorem loadSelect_pinBl (x : Sel) (s : State) : (loadSelect x s).pinBl = s.pinBl := rfl

@[simp] theorem loadSelect_asyncBusy (x : Sel) (s : State) :
    (loadSelect x s).asyncBusy = s.asyncBusy := rfl

@[simp] theorem loadSelect_asyncPending (x : Sel) (s : State) :
    (loadSelect x s).asyncPending = s.asyncPending := rfl

@[simp] theorem loadSelect_csHandoff (x : Sel) (s : State) :
    (loadSelect x s).csHandoff = s.csHandoff := rfl

@[simp] theorem loadSelect_latches (x : Sel) (s : State) :
    (loadSelect x s).latches = { s.latches with opSel := x } := rfl

@[simp] theorem loadSelect_fault (x : Sel) (s : State) : (loadSelect x s).fault = s.fault := rfl

@[simp] theorem loadSelect_refusedSeen (x : Sel) (s : State) :
    (loadSelect x s).refusedSeen = s.refusedSeen := rfl

@[simp] theorem loadSelect_trace (x : Sel) (s : State) : (loadSelect x s).trace = s.trace := rfl

@[simp] theorem loadSelect_script (x : Sel) (s : State) : (loadSelect x s).script = s.script := rfl

@[simp] theorem loadSelect_retired (x : Sel) (s : State) :
    (loadSelect x s).retired = s.retired := rfl

@[simp] theorem loadWindow_drvState (r : Rect) (s : State) :
    (loadWindow r s).drvState = s.drvState := rfl

@[simp] theorem loadWindow_spiPresent (r : Rect) (s : State) :
    (loadWindow r s).spiPresent = s.spiPresent := rfl

@[simp] theorem loadWindow_spiHz (r : Rect) (s : State) : (loadWindow r s).spiHz = s.spiHz := rfl

@[simp] theorem loadWindow_pinCs (r : Rect) (s : State) : (loadWindow r s).pinCs = s.pinCs := rfl

@[simp] theorem loadWindow_pinDc (r : Rect) (s : State) : (loadWindow r s).pinDc = s.pinDc := rfl

@[simp] theorem loadWindow_pinRst (r : Rect) (s : State) : (loadWindow r s).pinRst = s.pinRst := rfl

@[simp] theorem loadWindow_pinBl (r : Rect) (s : State) : (loadWindow r s).pinBl = s.pinBl := rfl

@[simp] theorem loadWindow_asyncBusy (r : Rect) (s : State) :
    (loadWindow r s).asyncBusy = s.asyncBusy := rfl

@[simp] theorem loadWindow_asyncPending (r : Rect) (s : State) :
    (loadWindow r s).asyncPending = s.asyncPending := rfl

@[simp] theorem loadWindow_csHandoff (r : Rect) (s : State) :
    (loadWindow r s).csHandoff = s.csHandoff := rfl

@[simp] theorem loadWindow_latches (r : Rect) (s : State) :
    (loadWindow r s).latches = { s.latches with
      opX0 := r.topLeft.x, opY0 := r.topLeft.y, opX1 := r.bottomRight.x, opY1 := r.bottomRight.y } := rfl

@[simp] theorem loadWindow_fault (r : Rect) (s : State) : (loadWindow r s).fault = s.fault := rfl

@[simp] theorem loadWindow_refusedSeen (r : Rect) (s : State) :
    (loadWindow r s).refusedSeen = s.refusedSeen := rfl

@[simp] theorem loadWindow_trace (r : Rect) (s : State) : (loadWindow r s).trace = s.trace := rfl

@[simp] theorem loadWindow_script (r : Rect) (s : State) : (loadWindow r s).script = s.script := rfl

@[simp] theorem loadWindow_retired (r : Rect) (s : State) :
    (loadWindow r s).retired = s.retired := rfl

@[simp] theorem loadColour_drvState (c : Half) (s : State) :
    (loadColour c s).drvState = s.drvState := rfl

@[simp] theorem loadColour_spiPresent (c : Half) (s : State) :
    (loadColour c s).spiPresent = s.spiPresent := rfl

@[simp] theorem loadColour_spiHz (c : Half) (s : State) : (loadColour c s).spiHz = s.spiHz := rfl

@[simp] theorem loadColour_pinCs (c : Half) (s : State) : (loadColour c s).pinCs = s.pinCs := rfl

@[simp] theorem loadColour_pinDc (c : Half) (s : State) : (loadColour c s).pinDc = s.pinDc := rfl

@[simp] theorem loadColour_pinRst (c : Half) (s : State) : (loadColour c s).pinRst = s.pinRst := rfl

@[simp] theorem loadColour_pinBl (c : Half) (s : State) : (loadColour c s).pinBl = s.pinBl := rfl

@[simp] theorem loadColour_asyncBusy (c : Half) (s : State) :
    (loadColour c s).asyncBusy = s.asyncBusy := rfl

@[simp] theorem loadColour_asyncPending (c : Half) (s : State) :
    (loadColour c s).asyncPending = s.asyncPending := rfl

@[simp] theorem loadColour_csHandoff (c : Half) (s : State) :
    (loadColour c s).csHandoff = s.csHandoff := rfl

@[simp] theorem loadColour_latches (c : Half) (s : State) :
    (loadColour c s).latches = { s.latches with opColour := c } := rfl

@[simp] theorem loadColour_fault (c : Half) (s : State) : (loadColour c s).fault = s.fault := rfl

@[simp] theorem loadColour_refusedSeen (c : Half) (s : State) :
    (loadColour c s).refusedSeen = s.refusedSeen := rfl

@[simp] theorem loadColour_trace (c : Half) (s : State) : (loadColour c s).trace = s.trace := rfl

@[simp] theorem loadColour_script (c : Half) (s : State) : (loadColour c s).script = s.script := rfl

@[simp] theorem loadColour_retired (c : Half) (s : State) :
    (loadColour c s).retired = s.retired := rfl

@[simp] theorem loadFlag_drvState (b : Bool) (s : State) :
    (loadFlag b s).drvState = s.drvState := rfl

@[simp] theorem loadFlag_spiPresent (b : Bool) (s : State) :
    (loadFlag b s).spiPresent = s.spiPresent := rfl

@[simp] theorem loadFlag_spiHz (b : Bool) (s : State) : (loadFlag b s).spiHz = s.spiHz := rfl

@[simp] theorem loadFlag_pinCs (b : Bool) (s : State) : (loadFlag b s).pinCs = s.pinCs := rfl

@[simp] theorem loadFlag_pinDc (b : Bool) (s : State) : (loadFlag b s).pinDc = s.pinDc := rfl

@[simp] theorem loadFlag_pinRst (b : Bool) (s : State) : (loadFlag b s).pinRst = s.pinRst := rfl

@[simp] theorem loadFlag_pinBl (b : Bool) (s : State) : (loadFlag b s).pinBl = s.pinBl := rfl

@[simp] theorem loadFlag_asyncBusy (b : Bool) (s : State) :
    (loadFlag b s).asyncBusy = s.asyncBusy := rfl

@[simp] theorem loadFlag_asyncPending (b : Bool) (s : State) :
    (loadFlag b s).asyncPending = s.asyncPending := rfl

@[simp] theorem loadFlag_csHandoff (b : Bool) (s : State) :
    (loadFlag b s).csHandoff = s.csHandoff := rfl

@[simp] theorem loadFlag_latches (b : Bool) (s : State) :
    (loadFlag b s).latches = { s.latches with opFlag := b } := rfl

@[simp] theorem loadFlag_fault (b : Bool) (s : State) : (loadFlag b s).fault = s.fault := rfl

@[simp] theorem loadFlag_refusedSeen (b : Bool) (s : State) :
    (loadFlag b s).refusedSeen = s.refusedSeen := rfl

@[simp] theorem loadFlag_trace (b : Bool) (s : State) : (loadFlag b s).trace = s.trace := rfl

@[simp] theorem loadFlag_script (b : Bool) (s : State) : (loadFlag b s).script = s.script := rfl

@[simp] theorem loadFlag_retired (b : Bool) (s : State) : (loadFlag b s).retired = s.retired := rfl

@[simp] theorem loadHz_drvState (hz : Hertz) (s : State) :
    (loadHz hz s).drvState = s.drvState := rfl

@[simp] theorem loadHz_spiPresent (hz : Hertz) (s : State) :
    (loadHz hz s).spiPresent = s.spiPresent := rfl

@[simp] theorem loadHz_spiHz (hz : Hertz) (s : State) : (loadHz hz s).spiHz = s.spiHz := rfl

@[simp] theorem loadHz_pinCs (hz : Hertz) (s : State) : (loadHz hz s).pinCs = s.pinCs := rfl

@[simp] theorem loadHz_pinDc (hz : Hertz) (s : State) : (loadHz hz s).pinDc = s.pinDc := rfl

@[simp] theorem loadHz_pinRst (hz : Hertz) (s : State) : (loadHz hz s).pinRst = s.pinRst := rfl

@[simp] theorem loadHz_pinBl (hz : Hertz) (s : State) : (loadHz hz s).pinBl = s.pinBl := rfl

@[simp] theorem loadHz_asyncBusy (hz : Hertz) (s : State) :
    (loadHz hz s).asyncBusy = s.asyncBusy := rfl

@[simp] theorem loadHz_asyncPending (hz : Hertz) (s : State) :
    (loadHz hz s).asyncPending = s.asyncPending := rfl

@[simp] theorem loadHz_csHandoff (hz : Hertz) (s : State) :
    (loadHz hz s).csHandoff = s.csHandoff := rfl

@[simp] theorem loadHz_latches (hz : Hertz) (s : State) :
    (loadHz hz s).latches = { s.latches with opHz := hz } := rfl

@[simp] theorem loadHz_fault (hz : Hertz) (s : State) : (loadHz hz s).fault = s.fault := rfl

@[simp] theorem loadHz_refusedSeen (hz : Hertz) (s : State) :
    (loadHz hz s).refusedSeen = s.refusedSeen := rfl

@[simp] theorem loadHz_trace (hz : Hertz) (s : State) : (loadHz hz s).trace = s.trace := rfl

@[simp] theorem loadHz_script (hz : Hertz) (s : State) : (loadHz hz s).script = s.script := rfl

@[simp] theorem loadHz_retired (hz : Hertz) (s : State) : (loadHz hz s).retired = s.retired := rfl

@[simp] theorem loadData_drvState (l : List Byte) (s : State) :
    (loadData l s).drvState = s.drvState := rfl

@[simp] theorem loadData_spiPresent (l : List Byte) (s : State) :
    (loadData l s).spiPresent = s.spiPresent := rfl

@[simp] theorem loadData_spiHz (l : List Byte) (s : State) : (loadData l s).spiHz = s.spiHz := rfl

@[simp] theorem loadData_pinCs (l : List Byte) (s : State) : (loadData l s).pinCs = s.pinCs := rfl

@[simp] theorem loadData_pinDc (l : List Byte) (s : State) : (loadData l s).pinDc = s.pinDc := rfl

@[simp] theorem loadData_pinRst (l : List Byte) (s : State) :
    (loadData l s).pinRst = s.pinRst := rfl

@[simp] theorem loadData_pinBl (l : List Byte) (s : State) : (loadData l s).pinBl = s.pinBl := rfl

@[simp] theorem loadData_asyncBusy (l : List Byte) (s : State) :
    (loadData l s).asyncBusy = s.asyncBusy := rfl

@[simp] theorem loadData_asyncPending (l : List Byte) (s : State) :
    (loadData l s).asyncPending = s.asyncPending := rfl

@[simp] theorem loadData_csHandoff (l : List Byte) (s : State) :
    (loadData l s).csHandoff = s.csHandoff := rfl

@[simp] theorem loadData_latches (l : List Byte) (s : State) :
    (loadData l s).latches = { s.latches with opData := l, opLen := l.length } := rfl

@[simp] theorem loadData_fault (l : List Byte) (s : State) : (loadData l s).fault = s.fault := rfl

@[simp] theorem loadData_refusedSeen (l : List Byte) (s : State) :
    (loadData l s).refusedSeen = s.refusedSeen := rfl

@[simp] theorem loadData_trace (l : List Byte) (s : State) : (loadData l s).trace = s.trace := rfl

@[simp] theorem loadData_script (l : List Byte) (s : State) :
    (loadData l s).script = s.script := rfl

@[simp] theorem loadData_retired (l : List Byte) (s : State) :
    (loadData l s).retired = s.retired := rfl

@[simp] theorem loadFrame_drvState (o : Byte) (d : Half) (l : List Byte) (s : State) :
    (loadFrame o d l s).drvState = s.drvState := rfl

@[simp] theorem loadFrame_spiPresent (o : Byte) (d : Half) (l : List Byte) (s : State) :
    (loadFrame o d l s).spiPresent = s.spiPresent := rfl

@[simp] theorem loadFrame_spiHz (o : Byte) (d : Half) (l : List Byte) (s : State) :
    (loadFrame o d l s).spiHz = s.spiHz := rfl

@[simp] theorem loadFrame_pinCs (o : Byte) (d : Half) (l : List Byte) (s : State) :
    (loadFrame o d l s).pinCs = s.pinCs := rfl

@[simp] theorem loadFrame_pinDc (o : Byte) (d : Half) (l : List Byte) (s : State) :
    (loadFrame o d l s).pinDc = s.pinDc := rfl

@[simp] theorem loadFrame_pinRst (o : Byte) (d : Half) (l : List Byte) (s : State) :
    (loadFrame o d l s).pinRst = s.pinRst := rfl

@[simp] theorem loadFrame_pinBl (o : Byte) (d : Half) (l : List Byte) (s : State) :
    (loadFrame o d l s).pinBl = s.pinBl := rfl

@[simp] theorem loadFrame_asyncBusy (o : Byte) (d : Half) (l : List Byte) (s : State) :
    (loadFrame o d l s).asyncBusy = s.asyncBusy := rfl

@[simp] theorem loadFrame_asyncPending (o : Byte) (d : Half) (l : List Byte) (s : State) :
    (loadFrame o d l s).asyncPending = s.asyncPending := rfl

@[simp] theorem loadFrame_csHandoff (o : Byte) (d : Half) (l : List Byte) (s : State) :
    (loadFrame o d l s).csHandoff = s.csHandoff := rfl

@[simp] theorem loadFrame_latches (o : Byte) (d : Half) (l : List Byte) (s : State) :
    (loadFrame o d l s).latches = { s.latches with frOpc := o, frDelay := d, frData := l } := rfl

@[simp] theorem loadFrame_fault (o : Byte) (d : Half) (l : List Byte) (s : State) :
    (loadFrame o d l s).fault = s.fault := rfl

@[simp] theorem loadFrame_refusedSeen (o : Byte) (d : Half) (l : List Byte) (s : State) :
    (loadFrame o d l s).refusedSeen = s.refusedSeen := rfl

@[simp] theorem loadFrame_trace (o : Byte) (d : Half) (l : List Byte) (s : State) :
    (loadFrame o d l s).trace = s.trace := rfl

@[simp] theorem loadFrame_script (o : Byte) (d : Half) (l : List Byte) (s : State) :
    (loadFrame o d l s).script = s.script := rfl

@[simp] theorem loadFrame_retired (o : Byte) (d : Half) (l : List Byte) (s : State) :
    (loadFrame o d l s).retired = s.retired := rfl

@[simp] theorem retire_drvState (s : State) : (retire s).drvState = s.drvState := rfl

@[simp] theorem retire_spiPresent (s : State) : (retire s).spiPresent = s.spiPresent := rfl

@[simp] theorem retire_spiHz (s : State) : (retire s).spiHz = s.spiHz := rfl

@[simp] theorem retire_pinCs (s : State) : (retire s).pinCs = s.pinCs := rfl

@[simp] theorem retire_pinDc (s : State) : (retire s).pinDc = s.pinDc := rfl

@[simp] theorem retire_pinRst (s : State) : (retire s).pinRst = s.pinRst := rfl

@[simp] theorem retire_pinBl (s : State) : (retire s).pinBl = s.pinBl := rfl

@[simp] theorem retire_asyncBusy (s : State) : (retire s).asyncBusy = s.asyncBusy := rfl

@[simp] theorem retire_asyncPending (s : State) : (retire s).asyncPending = s.asyncPending := rfl

@[simp] theorem retire_csHandoff (s : State) : (retire s).csHandoff = s.csHandoff := rfl

@[simp] theorem retire_latches (s : State) :
    (retire s).latches = Config.deadLatches s.retired := rfl

@[simp] theorem retire_fault (s : State) : (retire s).fault = s.fault := rfl

@[simp] theorem retire_refusedSeen (s : State) : (retire s).refusedSeen = s.refusedSeen := rfl

@[simp] theorem retire_trace (s : State) : (retire s).trace = s.trace := rfl

@[simp] theorem retire_script (s : State) : (retire s).script = s.script := rfl

@[simp] theorem retire_retired (s : State) : (retire s).retired = s.retired + 1 := rfl

@[simp] theorem setDrvState_drvState (d : DrvState) (s : State) :
    (setDrvState d s).drvState = d := rfl

@[simp] theorem setDrvState_spiPresent (d : DrvState) (s : State) :
    (setDrvState d s).spiPresent = s.spiPresent := rfl

@[simp] theorem setDrvState_spiHz (d : DrvState) (s : State) :
    (setDrvState d s).spiHz = s.spiHz := rfl

@[simp] theorem setDrvState_pinCs (d : DrvState) (s : State) :
    (setDrvState d s).pinCs = s.pinCs := rfl

@[simp] theorem setDrvState_pinDc (d : DrvState) (s : State) :
    (setDrvState d s).pinDc = s.pinDc := rfl

@[simp] theorem setDrvState_pinRst (d : DrvState) (s : State) :
    (setDrvState d s).pinRst = s.pinRst := rfl

@[simp] theorem setDrvState_pinBl (d : DrvState) (s : State) :
    (setDrvState d s).pinBl = s.pinBl := rfl

@[simp] theorem setDrvState_asyncBusy (d : DrvState) (s : State) :
    (setDrvState d s).asyncBusy = s.asyncBusy := rfl

@[simp] theorem setDrvState_asyncPending (d : DrvState) (s : State) :
    (setDrvState d s).asyncPending = s.asyncPending := rfl

@[simp] theorem setDrvState_csHandoff (d : DrvState) (s : State) :
    (setDrvState d s).csHandoff = s.csHandoff := rfl

@[simp] theorem setDrvState_latches (d : DrvState) (s : State) :
    (setDrvState d s).latches = s.latches := rfl

@[simp] theorem setDrvState_fault (d : DrvState) (s : State) :
    (setDrvState d s).fault = s.fault := rfl

@[simp] theorem setDrvState_refusedSeen (d : DrvState) (s : State) :
    (setDrvState d s).refusedSeen = s.refusedSeen := rfl

@[simp] theorem setDrvState_trace (d : DrvState) (s : State) :
    (setDrvState d s).trace = s.trace := rfl

@[simp] theorem setDrvState_script (d : DrvState) (s : State) :
    (setDrvState d s).script = s.script := rfl

@[simp] theorem setDrvState_retired (d : DrvState) (s : State) :
    (setDrvState d s).retired = s.retired := rfl

end Sys2Proof.Machine
end

