-- ==== Sys2Proof/Laws/Framer.lean ====
section
/-! SUPPORT. What the shared operations do, once for each: the framer's phases and primitives, the
transport's rate, the two address-set frames, the admission checks. -/

namespace Sys2Proof.Machine

/-- `emitBytes` appends one `TX` a byte, in order, and changes nothing else. -/
theorem emitBytes_eq (data : List Byte) (s : State) :
    emitBytes data s = { s with trace := s.trace ++ data.map .tx } := by
  induction data generalizing s with
  | nil => simp [emitBytes]
  | cons v rest ih => simp [emitBytes, ih, emit, drivePins]

/-- The command phase: four events, the hand-off over, the pins selecting data. -/
theorem commandPhase_eq (s : State) :
    commandPhase s = { s with
      trace := s.trace ++ [.cs false, .dc false, .tx s.latches.frOpc, .dc true]
      pinCs := .low, pinDc := .high, csHandoff := false } := by
  simp [commandPhase, emit, drivePins, levelOf]

/-- The synchronous primitive: the events of the frame, the pins high, the hand-off over, the frame's
operands in the latches, nothing else changed. -/
theorem sendCommand_eq (opc : Byte) (delay : Half) (data : List Byte) (s : State) :
    sendCommand opc delay data s = { s with
      trace := s.trace ++ syncFrame opc delay data
      pinCs := .high, pinDc := .high, csHandoff := false
      latches := { s.latches with frOpc := opc, frDelay := delay, frData := data } } := by
  simp only [sendCommand, commandPhase_eq, emitBytes_eq, delayPhase, loadFrame, syncFrame]
  by_cases h : 0 < delay.toNat <;> simp [emit, drivePins, levelOf, h]

/-- The asynchronous primitive: the frame left open, the payload in flight. -/
theorem sendCommandAsync_eq (opc : Byte) (data : List Byte) (s : State) :
    sendCommandAsync opc data s = { s with
      trace := s.trace ++ asyncFrame opc data
      pinCs := .low, pinDc := .high, csHandoff := false
      asyncBusy := true, asyncPending := data
      latches := { s.latches with frOpc := opc, frDelay := 0, frData := data } } := by
  simp [sendCommandAsync, commandPhase_eq, loadFrame, asyncFrame, emit, drivePins]

/-- Setting the rate: one event, one field. -/
theorem setRate_eq (hz : Hertz) (s : State) :
    setRate hz s = { s with trace := s.trace ++ [.spiHz hz], spiHz := hz } := rfl

/-- The two address-set frames: their events, the pins high, the hand-off over; of the latches only the
framer's change. -/
theorem sendWindow_eq (r : Rect) (s : State) :
    sendWindow r s = { s with
      trace := s.trace ++ windowEvents r
      pinCs := .high, pinDc := .high, csHandoff := false
      latches := { s.latches with
        frOpc := Config.opcRaset, frDelay := 0
        frData := coordBytes r.topLeft.y r.bottomRight.y } } := by
  simp [sendWindow, sendCommand_eq, windowEvents]

/-- Bytes read from a buffer just loaded are the bytes given. -/
theorem bufBytes_loaded (s : State) (h : s.latches.opLen = s.latches.opData.length) :
    bufBytes s = s.latches.opData := by
  simp [bufBytes, h]

/-! ### Admission -/

theorem accept_ready (run : State → State) (s : State)
    (ha : s.drvState = .active) (hb : s.asyncBusy = false) : accept run s = .next (run s) := by
  simp [accept, isActive, ha, hb]

theorem accept_notActive (run : State → State) (s : State) (ha : s.drvState ≠ .active) :
    accept run s = .fault .notActive := by
  simp [accept, isActive, ha]

theorem accept_overlap (run : State → State) (s : State)
    (ha : s.drvState = .active) (hb : s.asyncBusy = true) :
    accept run s = .fault .asyncOverlap := by
  simp [accept, isActive, ha, hb]

/-- What admission can do: it answers a next state only when the state admits the operation, and then
that of the operation run. -/
theorem accept_next {run : State → State} {s t : State} (h : accept run s = .next t) :
    s.drvState = .active ∧ s.asyncBusy = false ∧ t = run s := by
  by_cases ha : s.drvState = .active
  · cases hb : s.asyncBusy
    · rw [accept_ready run s ha hb] at h
      exact ⟨ha, rfl, (Host.Outcome.next.inj h).symm⟩
    · simp [accept_overlap run s ha hb] at h
  · simp [accept_notActive run s ha] at h

/-- Admission of an operation with a window: as `accept`, and the Rect is one. -/
theorem acceptWindow_next {window : Rect} {run : State → State} {s t : State}
    (h : acceptWindow window run s = .next t) :
    rectOrdered window = true ∧ s.drvState = .active ∧ s.asyncBusy = false ∧ t = run s := by
  cases hr : rectOrdered window
  · simp [acceptWindow, rectRefused, Config.checkRect, hr] at h
  · exact ⟨rfl, accept_next (by simpa [acceptWindow, rectRefused, hr] using h)⟩

theorem acceptWindow_ordered (window : Rect) (run : State → State) (s : State)
    (h : rectOrdered window = true) : acceptWindow window run s = accept run s := by
  simp [acceptWindow, rectRefused, h]

theorem acceptWindow_disordered (window : Rect) (run : State → State) (s : State)
    (h : rectOrdered window = false) : acceptWindow window run s = .refused .badRect := by
  simp [acceptWindow, rectRefused, h, Config.checkRect]

/-! ### The moves of the other agents -/

/-- Everything the transfer engine can do: one of its two steps, or nothing. -/
theorem engineMove_cases (s : State) :
    (s.asyncBusy = true ∧ s.asyncPending ≠ []
        ∧ engineMove s = { s with asyncPending := s.asyncPending.tail })
      ∨ (s.asyncBusy = true ∧ s.asyncPending = [] ∧ engineMove s = completionStep s)
      ∨ (s.asyncBusy = false ∧ engineMove s = s) := by
  cases hb : s.asyncBusy <;> cases hp : s.asyncPending <;>
    simp [engineMove, byteStepEnabled, completionEnabled, byteStep, hb, hp]

/-- The completion step, written out. -/
theorem completionStep_eq (s : State) :
    completionStep s = { s with
      trace := s.trace ++ [.adone], asyncBusy := false, csHandoff := true } := rfl

/-- Everything the environment's move can do. -/
theorem deselectMove_cases (s : State) :
    (s.csHandoff = true ∧ deselectMove s = { s with
        trace := s.trace ++ [.envCs], pinCs := .high, csHandoff := false })
      ∨ (s.csHandoff = false ∧ deselectMove s = s) := by
  cases h : s.csHandoff <;> simp [deselectMove, deselectEnabled, h, emit, drivePins]

/-- What taking the next move can give: the script's first move, or the engine's with the script at its
end. -/
theorem takeMove_cases (s : State) :
    (s.script = [] ∧ takeMove s = (.engine, s))
      ∨ ∃ m rest, s.script = m :: rest ∧ takeMove s = (m, { s with script := rest }) := by
  cases h : s.script with
  | nil => exact .inl ⟨rfl, by simp [takeMove, h]⟩
  | cons m rest => exact .inr ⟨m, rest, rfl, by simp [takeMove, h]⟩

end Sys2Proof.Machine
end

