-- ==== Sys2Proof/Laws/Exec.lean ====
section
/-! SUPPORT. What an instruction can do, once: `exec` of each constructor as its admission and its
operation, and the inversion of a next state into the three shapes a completed instruction has. -/

namespace Sys2Proof.Machine

open Safety

/-! ### `exec`, constructor by constructor -/

theorem exec_init_active (s : State) (h : s.drvState = .active) : exec .init s = .next s := by
  simp [exec, execInit, isActive, h]

theorem exec_init_first (s : State) (h : s.drvState ≠ .active) :
    exec .init s = .next (retire (initSequence (loadSelect Config.selInit s))) := by
  simp [exec, execInit, isActive, h]

theorem exec_clearScreen (c : Half) (s : State) :
    exec (.clearScreen c) s = accept (fun s =>
      let s1 := sendWindow fullRect (loadColour c (loadSelect Config.selClearScreen s))
      retire (sendCommand Config.opcRamwr 0 (constPixels s1.latches.opColour) s1)) s := rfl

theorem exec_sendPixelData (r : Rect) (data : List Byte) (s : State) :
    exec (.sendPixelData r data) s = acceptWindow r (fun s =>
      let s1 := sendLatchedWindow (loadData data (loadWindow r (loadSelect Config.selSendPixelData s)))
      retire (sendCommand Config.opcRamwr 0 (bufBytes s1) s1)) s := rfl

theorem exec_sendPixelDataAsync (r : Rect) (data : List Byte) (s : State) :
    exec (.sendPixelDataAsync r data) s = acceptWindow r (fun s =>
      let s1 := sendLatchedWindow
        (loadData data (loadWindow r (loadSelect Config.selSendPixelDataAsync s)))
      retire (sendCommandAsync Config.opcRamwr (bufBytes s1) s1)) s := rfl

theorem exec_setDrawWindow (r : Rect) (s : State) :
    exec (.setDrawWindow r) s = acceptWindow r (fun s =>
      retire (sendLatchedWindow (loadWindow r (loadSelect Config.selSetDrawWindow s)))) s := rfl

theorem exec_setDisplayEnabled (flag : Bool) (s : State) :
    exec (.setDisplayEnabled flag) s = accept (fun s =>
      let s1 := loadFlag flag (loadSelect Config.selSetDisplayEnabled s)
      retire (if s1.latches.opFlag then sendCommand Config.opcDispon 0 [] s1
              else sendCommand Config.opcDispoff 0 [] s1)) s := rfl

theorem exec_setSleep (flag : Bool) (s : State) :
    exec (.setSleep flag) s = accept (fun s =>
      let s1 := loadFlag flag (loadSelect Config.selSetSleep s)
      retire (if s1.latches.opFlag then sendCommand Config.opcSlpin Config.tSlpinMs [] s1
              else sendCommand Config.opcSlpout Config.tSlpoutMs [] s1)) s := rfl

theorem exec_setUpdateRate (hz : Hertz) (s : State) :
    exec (.setUpdateRate hz) s = accept (fun s =>
      let s1 := loadHz hz (loadSelect Config.selSetUpdateRate s)
      retire (setRate s1.latches.opHz s1)) s := rfl

theorem exec_swreset (delay : Half) (s : State) :
    exec (.swreset delay) s =
      accept (fun s => retire (sendCommand Config.opcSwreset delay [] s)) s := rfl

theorem exec_slpin (delay : Half) (s : State) :
    exec (.slpin delay) s =
      accept (fun s => retire (sendCommand Config.opcSlpin delay [] s)) s := rfl

theorem exec_slpout (delay : Half) (s : State) :
    exec (.slpout delay) s =
      accept (fun s => retire (sendCommand Config.opcSlpout delay [] s)) s := rfl

theorem exec_dispoff (delay : Half) (s : State) :
    exec (.dispoff delay) s =
      accept (fun s => retire (sendCommand Config.opcDispoff delay [] s)) s := rfl

theorem exec_dispon (delay : Half) (s : State) :
    exec (.dispon delay) s =
      accept (fun s => retire (sendCommand Config.opcDispon delay [] s)) s := rfl

theorem exec_caset (x0 x1 : Byte) (delay : Half) (s : State) :
    exec (.caset x0 x1 delay) s =
      accept (fun s => retire (sendCommand Config.opcCaset delay (coordBytes x0 x1) s)) s := rfl

theorem exec_raset (y0 y1 : Byte) (delay : Half) (s : State) :
    exec (.raset y0 y1 delay) s =
      accept (fun s => retire (sendCommand Config.opcRaset delay (coordBytes y0 y1) s)) s := rfl

theorem exec_ramwr (data : List Byte) (variant : Variant) (s : State) :
    exec (.ramwr data variant) s =
      accept (fun s => retire (sendFrame Config.opcRamwr data variant s)) s := rfl

theorem exec_madctl (cfg : Byte) (delay : Half) (s : State) :
    exec (.madctl cfg delay) s =
      if mdacLegal cfg then
        accept (fun s => retire (sendCommand Config.opcMadctl delay [cfg] s)) s
      else .refused .badMdac := rfl

theorem exec_colmod (cfg : Byte) (delay : Half) (s : State) :
    exec (.colmod cfg delay) s =
      if colourModeLegal cfg then
        accept (fun s => retire (sendCommand Config.opcColmod delay [cfg] s)) s
      else .refused .badColourMode := rfl

/-! ### The steps of `init` -/

theorem initTransport_eq (s : State) :
    initTransport s = { s with
      trace := s.trace ++ [.spiNew, .spiHz 8000000], spiPresent := true, spiHz := 8000000 } := by
  simp [initTransport, setRate_eq, emit, drivePins, Config.spiHzDefault]

theorem initBacklight_eq (s : State) :
    initBacklight s = { s with trace := s.trace ++ [.bl true], pinBl := .high } := rfl

theorem initHardwareReset_eq (s : State) :
    initHardwareReset s = { s with
      drvState := .hardwareResetting
      trace := s.trace ++ [.rst true, .wait 200, .rst false, .wait 200, .rst true]
      pinRst := .high } := by
  simp [initHardwareReset, setDrvState, emit, drivePins, levelOf, Config.tRstHiMs, Config.tRstLoMs]

/-- The five frames of `init` and the sequencer state each leaves. -/
theorem initFrames_eq (s : State) :
    initSoftwareReset s
        = sendCommand Config.opcSwreset 150 [] { s with drvState := .softwareResetting }
      ∧ initPixelFormat s = sendCommand Config.opcColmod 0 [5] { s with drvState := .configuring }
      ∧ initMemoryAccess s = sendCommand Config.opcMadctl 0 [0] s
      ∧ initWake s = sendCommand Config.opcSlpout 200 [] s
      ∧ initEnable s = sendCommand Config.opcDispon 0 [] s :=
  ⟨rfl, rfl, rfl, rfl, rfl⟩

/-! ### The frames an instruction sends -/

/-- The synchronous frames an instruction sends, in order: opcode, delay, parameter bytes. An
asynchronous RAM write comes after them (`asyncPayload`). -/
def syncFrames : Instr → List (Byte × Half × List Byte)
  | .init => []
  | .clearScreen c =>
    [(Config.opcCaset, 0, coordBytes fullRect.topLeft.x fullRect.bottomRight.x),
     (Config.opcRaset, 0, coordBytes fullRect.topLeft.y fullRect.bottomRight.y),
     (Config.opcRamwr, 0, constPixels c)]
  | .sendPixelData r data =>
    [(Config.opcCaset, 0, coordBytes r.topLeft.x r.bottomRight.x),
     (Config.opcRaset, 0, coordBytes r.topLeft.y r.bottomRight.y),
     (Config.opcRamwr, 0, data)]
  | .sendPixelDataAsync r _ =>
    [(Config.opcCaset, 0, coordBytes r.topLeft.x r.bottomRight.x),
     (Config.opcRaset, 0, coordBytes r.topLeft.y r.bottomRight.y)]
  | .setDrawWindow r =>
    [(Config.opcCaset, 0, coordBytes r.topLeft.x r.bottomRight.x),
     (Config.opcRaset, 0, coordBytes r.topLeft.y r.bottomRight.y)]
  | .setDisplayEnabled flag => [(if flag then Config.opcDispon else Config.opcDispoff, 0, [])]
  | .setSleep flag =>
    [if flag then (Config.opcSlpin, Config.tSlpinMs, [])
     else (Config.opcSlpout, Config.tSlpoutMs, [])]
  | .setUpdateRate _ => []
  | .swreset delay => [(Config.opcSwreset, delay, [])]
  | .slpin delay => [(Config.opcSlpin, delay, [])]
  | .slpout delay => [(Config.opcSlpout, delay, [])]
  | .dispoff delay => [(Config.opcDispoff, delay, [])]
  | .dispon delay => [(Config.opcDispon, delay, [])]
  | .caset x0 x1 delay => [(Config.opcCaset, delay, coordBytes x0 x1)]
  | .raset y0 y1 delay => [(Config.opcRaset, delay, coordBytes y0 y1)]
  | .ramwr data (.sync delay) => [(Config.opcRamwr, delay, data)]
  | .ramwr _ .async => []
  | .madctl cfg delay => [(Config.opcMadctl, delay, [cfg])]
  | .colmod cfg delay => [(Config.opcColmod, delay, [cfg])]

/-- The payload of the asynchronous RAM write an instruction ends with, if it does. -/
def asyncPayload : Instr → Option (List Byte)
  | .sendPixelDataAsync _ data => some data
  | .ramwr data .async => some data
  | _ => none

/-- The events of a list of synchronous frames. -/
def syncEvents (fs : List (Byte × Half × List Byte)) : List Event :=
  fs.flatMap fun f => syncFrame f.1 f.2.1 f.2.2

/-- Every frame an instruction sends has one of the ten opcodes. -/
theorem syncFrames_opcodes (i : Instr) : ∀ f ∈ syncFrames i, f.1 ∈ Config.opcodes := by
  cases i <;> simp [syncFrames, Config.opcodes]
  case setDisplayEnabled flag => cases flag <;> simp
  case setSleep flag => cases flag <;> simp
  case ramwr data variant => cases variant <;> simp_all

/-- The state an instruction other than `init` leaves, up to the dead latches and the counter. -/
def effect (i : Instr) (s : State) : State :=
  match i, asyncPayload i with
  | .setUpdateRate hz, _ => { s with trace := s.trace ++ [.spiHz hz], spiHz := hz }
  | i, some data =>
    afterAsync (syncEvents (syncFrames i) ++ asyncFrame Config.opcRamwr data) data s
  | i, none => afterSync (syncEvents (syncFrames i)) s

/-- The three shapes of an effect: the rate is set, or synchronous frames go out and then an
asynchronous RAM write, or one synchronous frame or more. -/
theorem effect_cases (i : Instr) (hi : i ≠ .init) (s : State) :
    (∃ hz, i = .setUpdateRate hz
        ∧ effect i s = { s with trace := s.trace ++ [.spiHz hz], spiHz := hz })
      ∨ (∃ data, asyncPayload i = some data
          ∧ effect i s
            = afterAsync (syncEvents (syncFrames i) ++ asyncFrame Config.opcRamwr data) data s)
      ∨ (asyncPayload i = none ∧ syncFrames i ≠ []
          ∧ effect i s = afterSync (syncEvents (syncFrames i)) s) := by
  cases i with
  | init => exact absurd rfl hi
  | setUpdateRate hz => exact .inl ⟨hz, rfl, rfl⟩
  | sendPixelDataAsync r data => exact .inr (.inl ⟨data, rfl, rfl⟩)
  | ramwr data variant =>
    cases variant with
    | sync delay => exact .inr (.inr ⟨rfl, by simp [syncFrames], rfl⟩)
    | async => exact .inr (.inl ⟨data, rfl, rfl⟩)
  | _ => exact .inr (.inr ⟨rfl, by simp [syncFrames], rfl⟩)

/-- No effect writes the sequencer state, the transport's handle, the reset or backlight pin, the fault,
the mark or the script. -/
theorem effect_keeps (i : Instr) (s : State) :
    (effect i s).drvState = s.drvState ∧ (effect i s).spiPresent = s.spiPresent
      ∧ (effect i s).pinRst = s.pinRst ∧ (effect i s).pinBl = s.pinBl
      ∧ (effect i s).fault = s.fault ∧ (effect i s).refusedSeen = s.refusedSeen
      ∧ (effect i s).script = s.script := by
  cases i with
  | ramwr data variant => cases variant <;> simp [effect, asyncPayload, afterSync, afterAsync]
  | _ => simp [effect, asyncPayload, afterSync, afterAsync]

/-- An admitted instruction other than `init` whose operands are well-formed completes, with its
effect, fresh free values in the latches, and the counter of returns one up. -/
theorem exec_ready (i : Instr) (s : State) (hi : i ≠ .init) (hw : wellFormed i = true)
    (ha : s.drvState = .active) (hb : s.asyncBusy = false) :
    exec i s = .next { effect i s with
      latches := Config.deadLatches s.retired, retired := s.retired + 1 } := by
  cases i with
  | init => exact absurd rfl hi
  | clearScreen c =>
    simp [exec_clearScreen, accept_ready _ _ ha hb, effect, asyncPayload, syncFrames, syncEvents,
      afterSync, sendWindow_eq, sendCommand_eq, windowEvents, retire, loadColour, loadSelect]
  | sendPixelData r data =>
    rw [exec_sendPixelData, acceptWindow_ordered _ _ _ hw, accept_ready _ _ ha hb]
    simp [effect, asyncPayload, syncFrames, syncEvents, afterSync, sendLatchedWindow, sendWindow_eq,
      sendCommand_eq, windowEvents, retire, loadData, loadWindow, loadSelect, latchedWindow, bufBytes]
  | sendPixelDataAsync r data =>
    rw [exec_sendPixelDataAsync, acceptWindow_ordered _ _ _ hw, accept_ready _ _ ha hb]
    simp [effect, asyncPayload, syncFrames, syncEvents, afterAsync, sendLatchedWindow, sendWindow_eq,
      sendCommandAsync_eq, windowEvents, retire, loadData, loadWindow, loadSelect, latchedWindow,
      bufBytes]
  | setDrawWindow r =>
    rw [exec_setDrawWindow, acceptWindow_ordered _ _ _ hw, accept_ready _ _ ha hb]
    simp [effect, asyncPayload, syncFrames, syncEvents, afterSync, sendLatchedWindow, sendWindow_eq,
      windowEvents, retire, loadWindow, loadSelect, latchedWindow]
  | setDisplayEnabled flag =>
    rw [exec_setDisplayEnabled, accept_ready _ _ ha hb]
    cases flag <;> simp [effect, asyncPayload, syncFrames, syncEvents, afterSync, sendCommand_eq,
      retire, loadFlag, loadSelect]
  | setSleep flag =>
    rw [exec_setSleep, accept_ready _ _ ha hb]
    cases flag <;> simp [effect, asyncPayload, syncFrames, syncEvents, afterSync, sendCommand_eq,
      retire, loadFlag, loadSelect]
  | setUpdateRate hz =>
    rw [exec_setUpdateRate, accept_ready _ _ ha hb]
    simp [effect, setRate_eq, retire, loadHz, loadSelect]
  | ramwr data variant =>
    rw [exec_ramwr, accept_ready _ _ ha hb]
    cases variant <;> simp [effect, asyncPayload, syncFrames, syncEvents, afterSync, afterAsync,
      sendFrame, sendCommand_eq, sendCommandAsync_eq, retire]
  | madctl cfg delay =>
    have hc : mdacLegal cfg = true := hw
    rw [exec_madctl, if_pos hc, accept_ready _ _ ha hb]
    simp [effect, asyncPayload, syncFrames, syncEvents, afterSync, sendCommand_eq, retire]
  | colmod cfg delay =>
    have hc : colourModeLegal cfg = true := hw
    rw [exec_colmod, if_pos hc, accept_ready _ _ ha hb]
    simp [effect, asyncPayload, syncFrames, syncEvents, afterSync, sendCommand_eq, retire]
  | swreset delay | slpin delay | slpout delay | dispoff delay | dispon delay
  | caset _ _ delay | raset _ _ delay =>
    simp [exec_swreset, exec_slpin, exec_slpout, exec_dispoff, exec_dispon, exec_caset, exec_raset,
      accept_ready _ _ ha hb, effect, asyncPayload, syncFrames, syncEvents, afterSync, sendCommand_eq,
      retire]

/-- When an instruction other than `init` answers a next state, its operands were well-formed and the
state admitted it. -/
theorem exec_next_admitted {i : Instr} {s t : State} (hi : i ≠ .init) (h : exec i s = .next t) :
    wellFormed i = true ∧ s.drvState = .active ∧ s.asyncBusy = false := by
  cases i with
  | init => exact absurd rfl hi
  | sendPixelData r data | sendPixelDataAsync r data | setDrawWindow r =>
    obtain ⟨hr, ha, hb, -⟩ := acceptWindow_next h
    exact ⟨hr, ha, hb⟩
  | madctl cfg delay =>
    rw [exec_madctl] at h
    cases hc : mdacLegal cfg with
    | true =>
      rw [if_pos hc] at h
      exact ⟨hc, (accept_next h).1, (accept_next h).2.1⟩
    | false => simp [hc] at h
  | colmod cfg delay =>
    rw [exec_colmod] at h
    cases hc : colourModeLegal cfg with
    | true =>
      rw [if_pos hc] at h
      exact ⟨hc, (accept_next h).1, (accept_next h).2.1⟩
    | false => simp [hc] at h
  | _ =>
    simp only [exec_clearScreen, exec_setDisplayEnabled, exec_setSleep, exec_setUpdateRate,
      exec_swreset, exec_slpin, exec_slpout, exec_dispoff, exec_dispon, exec_caset, exec_raset,
      exec_ramwr] at h
    obtain ⟨ha, hb, -⟩ := accept_next h
    exact ⟨rfl, ha, hb⟩

/-- Everything an instruction that answers a next state can have done: `init` in `Active` nothing,
`init` before it its sequence, any other instruction its effect. -/
theorem exec_next_cases {i : Instr} {s t : State} (h : exec i s = .next t) :
    (i = .init ∧ s.drvState = .active ∧ t = s)
      ∨ (i = .init ∧ s.drvState ≠ .active
          ∧ t = retire (initSequence (loadSelect Config.selInit s)))
      ∨ (i ≠ .init ∧ wellFormed i = true ∧ s.drvState = .active ∧ s.asyncBusy = false
          ∧ t = { effect i s with
                latches := Config.deadLatches s.retired, retired := s.retired + 1 }) := by
  by_cases hi : i = .init
  · subst hi
    by_cases ha : s.drvState = .active
    · rw [exec_init_active s ha] at h
      exact .inl ⟨rfl, ha, (Host.Outcome.next.inj h).symm⟩
    · rw [exec_init_first s ha] at h
      exact .inr (.inl ⟨rfl, ha, (Host.Outcome.next.inj h).symm⟩)
  · obtain ⟨hw, ha, hb⟩ := exec_next_admitted hi h
    rw [exec_ready i s hi hw ha hb] at h
    exact .inr (.inr ⟨hi, hw, ha, hb, (Host.Outcome.next.inj h).symm⟩)

/-- Everything a step that answers a next state can have done: run a presented instruction, or move the
transfer engine or the environment. -/
theorem step_next_cases {s t : State} (h : step s = .next t) :
    s.fault = none
      ∧ ((∃ p rest i, s.script = .present p :: rest ∧ decode p = .ok i
            ∧ exec i { s with script := rest } = .next t)
        ∨ (∃ rest, t = engineMove { s with script := rest })
        ∨ ∃ rest, s.script = .deselect :: rest ∧ t = deselectMove { s with script := rest }) := by
  have hf : s.fault = none := by
    cases hf : s.fault with
    | none => rfl
    | some f => simp [step, hf] at h
  refine ⟨hf, ?_⟩
  simp only [step, hf] at h
  cases hs : s.script with
  | nil =>
    simp only [takeMove, hs, Host.Outcome.next.injEq] at h
    exact .inr (.inl ⟨[], by rw [← h, ← hs]⟩)
  | cons m rest =>
    simp only [takeMove, hs] at h
    cases m with
    | engine => exact .inr (.inl ⟨rest, (Host.Outcome.next.inj h).symm⟩)
    | deselect => exact .inr (.inr ⟨rest, rfl, (Host.Outcome.next.inj h).symm⟩)
    | present p =>
      simp only [presentPacket] at h
      cases hd : decode p with
      | error e => simp [hd] at h
      | ok i => exact .inl ⟨p, rest, i, rfl, hd, by simpa [hd] using h⟩

end Sys2Proof.Machine
end

