-- ==== Sys2Proof/Laws/PerInstr.lean ====
section
/-! SUPPORT. Statements made for every instruction as syntax, one lemma for each constructor. The
family `TableRow`: the packet of an instruction carries the select code or the opcode byte that
spec/opcode_table.json gives its row, and as many parameter bytes as its format
(spec/30_encoding.md R91, R93, R112). -/

namespace Sys2Proof.Laws.TableRow

/-- What a row of the table fixes. -/
inductive Row
  /-- Format `H`: the operation select. -/
  | select (code : Nat)
  /-- Formats `W0`, `W1`, `W4`: the opcode byte and the number of parameter bytes. -/
  | opcode (code : Nat) (parameters : Nat)
  /-- Format `WN`: the opcode byte alone. -/
  | opcodeAny (code : Nat)
deriving DecidableEq, Repr

/-- The table's rows, copied from spec/opcode_table.json. -/
def row : Instr → Row
  | .init => .select 0
  | .clearScreen _ => .select 1
  | .sendPixelData _ _ => .select 2
  | .sendPixelDataAsync _ _ => .select 3
  | .setDrawWindow _ => .select 4
  | .setDisplayEnabled _ => .select 5
  | .setSleep _ => .select 6
  | .setUpdateRate _ => .select 7
  | .swreset _ => .opcode 0x01 0
  | .slpin _ => .opcode 0x10 0
  | .slpout _ => .opcode 0x11 0
  | .dispoff _ => .opcode 0x28 0
  | .dispon _ => .opcode 0x29 0
  | .caset _ _ _ => .opcode 0x2A 4
  | .raset _ _ _ => .opcode 0x2B 4
  | .ramwr _ _ => .opcodeAny 0x2C
  | .madctl _ _ => .opcode 0x36 1
  | .colmod _ _ => .opcode 0x3A 1

/-- A packet carries what a row fixes. -/
def carries : Packet → Row → Bool
  | .request r, .select code => r.opSel.toNat == code
  | .frame f, .opcode code n => f.opc.toNat == code && f.data.length == n
  | .frame f, .opcodeAny code => f.opc.toNat == code
  | _, _ => false

/-- The encoder follows the instruction's row. -/
def Statement (i : Instr) : Prop := carries (encode i) (row i) = true

theorem init : Statement .init := rfl

theorem clearScreen (colour : Half) : Statement (.clearScreen colour) := rfl

theorem sendPixelData (window : Rect) (data : List Byte) :
    Statement (.sendPixelData window data) := rfl

theorem sendPixelDataAsync (window : Rect) (data : List Byte) :
    Statement (.sendPixelDataAsync window data) := rfl

theorem setDrawWindow (window : Rect) : Statement (.setDrawWindow window) := rfl

theorem setDisplayEnabled (flag : Bool) : Statement (.setDisplayEnabled flag) := rfl

theorem setSleep (flag : Bool) : Statement (.setSleep flag) := rfl

theorem setUpdateRate (hz : Hertz) : Statement (.setUpdateRate hz) := rfl

theorem swreset (delay : Half) : Statement (.swreset delay) := rfl

theorem slpin (delay : Half) : Statement (.slpin delay) := rfl

theorem slpout (delay : Half) : Statement (.slpout delay) := rfl

theorem dispoff (delay : Half) : Statement (.dispoff delay) := rfl

theorem dispon (delay : Half) : Statement (.dispon delay) := rfl

theorem caset (x0 x1 : Byte) (delay : Half) : Statement (.caset x0 x1 delay) := rfl

theorem raset (y0 y1 : Byte) (delay : Half) : Statement (.raset y0 y1 delay) := rfl

theorem ramwr (data : List Byte) (variant : Variant) : Statement (.ramwr data variant) := rfl

theorem madctl (cfg : Byte) (delay : Half) : Statement (.madctl cfg delay) := rfl

theorem colmod (cfg : Byte) (delay : Half) : Statement (.colmod cfg delay) := rfl

end Sys2Proof.Laws.TableRow
end

