-- ==== Sys2Proof/Laws/Trace.lean ====
section
/-! SUPPORT. What the views of a trace make of a trace appended to and of one frame: wire bytes, peer
registers, clock rate, waits, the counts of transfers, the framing discipline. -/

namespace Sys2Proof.Machine

open Safety

/-! ### Appending -/

theorem wire_append (a b : List Event) : wire (a ++ b) = wire a ++ wire b := by simp [wire]

theorem peerView_append (a b : List Event) :
    peerView (a ++ b) = b.foldl PeerView.event (peerView a) := by simp [peerView]

theorem rateAfter_append (f : Option Hertz) (a b : List Event) :
    rateAfter f (a ++ b) = rateAfter (rateAfter f a) b := by
  induction a generalizing f with
  | nil => simp [rateAfter]
  | cons e r ih => cases e <;> simp [rateAfter, ih]

theorem clocked_append (f : Option Hertz) (a b : List Event) :
    clocked f (a ++ b) = clocked f a ++ clocked (rateAfter f a) b := by
  induction a generalizing f with
  | nil => simp [clocked, rateAfter]
  | cons e r ih => cases e <;> simp [clocked, ih, rateAfter]

theorem waitTotal_append (a b : List Event) :
    waitTotal (a ++ b) = waitTotal a + waitTotal b := by
  induction a with
  | nil => simp [waitTotal]
  | cons e r ih => cases e <;> simp [waitTotal, ih, Nat.add_assoc]

theorem started_append (a b : List Event) : started (a ++ b) = started a + started b := by
  simp [started]

theorem completed_append (a b : List Event) :
    completed (a ++ b) = completed a + completed b := by
  simp [completed]

theorem lastFrameOpen_append (a b : List Event) :
    lastFrameOpen (a ++ b) = b.foldl openAfter (lastFrameOpen a) := by
  simp [lastFrameOpen]

theorem lineFrom_append (l : Line) (a b : List Event) :
    lineFrom l (a ++ b) = (lineFrom l a).bind fun m => lineFrom m b := by
  induction a generalizing l with
  | nil => simp [lineFrom]
  | cons e r ih =>
    simp only [List.cons_append, lineFrom]
    cases l.next e <;> simp [ih]

/-! ### One frame -/

theorem wire_map_tx (data : List Byte) : wire (data.map .tx) = data := by
  induction data <;> simp_all [wire, wireOf]

theorem wire_syncFrame (opc : Byte) (delay : Half) (data : List Byte) :
    wire (syncFrame opc delay data) = opc :: data := by
  simp only [syncFrame, wire_append, wire_map_tx]
  split <;> simp [wire, wireOf]

theorem wire_asyncFrame (opc : Byte) (data : List Byte) :
    wire (asyncFrame opc data) = opc :: data := by
  simp [asyncFrame, wire, wireOf]

theorem rateAfter_syncFrame (f : Option Hertz) (opc : Byte) (delay : Half) (data : List Byte) :
    rateAfter f (syncFrame opc delay data) = f := by
  have h : ∀ (l : List Byte) (f : Option Hertz), rateAfter f (l.map .tx) = f := by
    intro l
    induction l <;> simp_all [rateAfter]
  simp only [syncFrame, rateAfter_append, h]
  split <;> simp [rateAfter]

theorem waitTotal_syncFrame (opc : Byte) (delay : Half) (data : List Byte) :
    waitTotal (syncFrame opc delay data) = delay.toNat := by
  have h : ∀ l : List Byte, waitTotal (l.map .tx) = 0 := by
    intro l
    induction l <;> simp_all [waitTotal]
  simp only [syncFrame, waitTotal_append, h]
  split <;> simp [waitTotal]
  omega

theorem started_syncFrame (opc : Byte) (delay : Half) (data : List Byte) :
    started (syncFrame opc delay data) = 0 := by
  have h : ∀ l : List Byte, started (l.map .tx) = 0 := by
    intro l
    induction l <;> simp_all [started, isStart]
  simp only [syncFrame, started_append, h]
  split <;> simp [started, isStart]

theorem completed_syncFrame (opc : Byte) (delay : Half) (data : List Byte) :
    completed (syncFrame opc delay data) = 0 := by
  have h : ∀ l : List Byte, completed (l.map .tx) = 0 := by
    intro l
    induction l <;> simp_all [completed]
  simp only [syncFrame, completed_append, h]
  split <;> simp [completed]

/-- A synchronous frame is complete at its end, so its registers are written. -/
theorem peerView_syncFrame (opc : Byte) (delay : Half) (data : List Byte) (v : PeerView) :
    (syncFrame opc delay data).foldl PeerView.event v
      = { regs := v.regs.frame opc data, command := false, opc := none, params := [] } := by
  have h : ∀ (l : List Byte) (v : PeerView), v.command = false →
      (l.map Event.tx).foldl PeerView.event v = { v with params := v.params ++ l } := by
    intro l
    induction l with
    | nil => simp
    | cons b r ih =>
      intro v hv
      have hb : v.event (.tx b) = { v with params := v.params ++ [b] } := by
        simp [PeerView.event, hv]
      simp only [List.map_cons, List.foldl_cons, hb]
      rw [ih _ (by simpa using hv)]
      simp
  simp only [syncFrame]
  split <;> simp [PeerView.event, h, PeerView.complete]

/-- After a synchronous frame no frame is open. -/
theorem openAfter_syncFrame (opc : Byte) (delay : Half) (data : List Byte) (b : Bool) :
    (syncFrame opc delay data).foldl openAfter b = false := by
  have h : ∀ (l : List Byte) (b : Bool), (l.map Event.tx).foldl openAfter b = b := by
    intro l
    induction l with
    | nil => simp
    | cons a r ih => intro b; simp [openAfter, ih]
  simp only [syncFrame]
  split <;> simp [openAfter, h]

/-- After an asynchronous frame it is open. -/
theorem openAfter_asyncFrame (opc : Byte) (data : List Byte) (b : Bool) :
    (asyncFrame opc data).foldl openAfter b = true := by
  simp [asyncFrame, openAfter]

/-- The data phase keeps the line. -/
theorem lineFrom_map_tx (data : List Byte) (rest : List Event) :
    lineFrom .data (data.map Event.tx ++ rest) = lineFrom .data rest := by
  induction data with
  | nil => simp
  | cons a l ih => simp [lineFrom, Line.next, Line.inData, ih]

/-- A synchronous frame may start on a quiet line or after a hand-off, and leaves the line quiet. -/
theorem lineFrom_syncFrame (l : Line) (hl : l = .idle ∨ l = .closed ∨ l = .handed) (opc : Byte)
    (delay : Half) (data : List Byte) (ho : opc ∈ Config.opcodes) :
    lineFrom l (syncFrame opc delay data)
      = some (if 0 < delay.toNat then .idle else .closed) := by
  have hs : ∀ rest, lineFrom l (.cs false :: rest) = lineFrom .selected rest := by
    intro rest
    rcases hl with rfl | rfl | rfl <;>
      simp [lineFrom, Line.next, Line.quiet, Line.afterClose, Line.afterDone]
  simp only [syncFrame, List.cons_append, List.nil_append, List.append_assoc, hs]
  split <;> simp [lineFrom, Line.next, Line.afterCommand, ho, lineFrom_map_tx, Line.inData,
    Line.afterClose]

/-- An asynchronous frame may start likewise, and leaves the line in flight. -/
theorem lineFrom_asyncFrame (l : Line) (hl : l = .idle ∨ l = .closed ∨ l = .handed) (opc : Byte)
    (data : List Byte) (ho : opc ∈ Config.opcodes) :
    lineFrom l (asyncFrame opc data) = some .flight := by
  rcases hl with rfl | rfl | rfl <;>
    simp [asyncFrame, lineFrom, Line.next, Line.quiet, Line.afterClose, Line.afterDone,
      Line.afterCommand, ho, Line.inData]

end Sys2Proof.Machine
end

