-- ==== Sys2Proof/Tests/Slice0.lean ====
section
/-! SUPPORT. Tests of the model on small states, their expected results copied from the worked examples
of spec/95_test_vectors.md (S1 to S15, T1 to T59) or computed by hand from the rules named; and for
every obligation with hypotheses the witnesses that meet them. -/

namespace Sys2Proof.Tests

open Machine Safety

/-! ### Small states -/

/-- `Active`, nothing in flight, the trace cut short to none. -/
def ready : State :=
  { State.reset with
    drvState := .active, spiPresent := true, spiHz := 8000000
    pinCs := .high, pinDc := .high, pinRst := .high, pinBl := .high }

/-- A transfer in flight, one byte pending. -/
def flying : State :=
  { ready with
    pinCs := .low, asyncBusy := true, asyncPending := [0xAA]
    trace := [.cs false, .dc false, .tx 0x2C, .dc true, .atx [0xAA]] }

/-- The same transfer, its completion due. -/
def landed : State := { flying with asyncPending := [] }

/-- The same transfer completed, chip-select handed off. -/
def handed : State :=
  { landed with asyncBusy := false, csHandoff := true, trace := landed.trace ++ [.adone] }

/-- `ready` with an operation presented. -/
def presenting (i : Instr) (s : State) : State := { s with script := [.present (encode i)] }

/-- The outcome is a next state with the property. -/
def nextIs (o : Host.Outcome State Fault Refusal) (p : State → Bool) : Bool :=
  match o with
  | .next t => p t
  | .fault _ => false
  | .refused _ => false

/-- The outcome is this fault. -/
def faultIs (o : Host.Outcome State Fault Refusal) (f : Fault) : Bool :=
  match o with
  | .next _ => false
  | .fault g => g == f
  | .refused _ => false

/-- The outcome is this refusal. -/
def refusedIs (o : Host.Outcome State Fault Refusal) (r : Refusal) : Bool :=
  match o with
  | .next _ => false
  | .fault _ => false
  | .refused q => q == r

/-- The events an outcome appends to `ready`, whose trace is empty. -/
def emits (o : Host.Outcome State Fault Refusal) (tr : List Event) : Bool :=
  nextIs o fun t => t.trace == tr

/-- The Rect `(10,20)-(11,21)` of T14. -/
def box : Rect := ⟨⟨10, 20⟩, ⟨11, 21⟩⟩

/-- One cell, `(5,5)-(5,5)` (T15). -/
def cell : Rect := ⟨⟨5, 5⟩, ⟨5, 5⟩⟩

/-- The largest Rect, `(0,0)-(255,255)` (T16). -/
def widest : Rect := ⟨⟨0, 0⟩, ⟨255, 255⟩⟩

/-- No Rect in x (T18). -/
def badX : Rect := ⟨⟨11, 20⟩, ⟨10, 21⟩⟩

/-- No Rect in y (T19). -/
def badY : Rect := ⟨⟨10, 21⟩, ⟨11, 20⟩⟩

/-! ### Decoding, word by word (R91, R93, R112) -/

theorem test_decode_init : decodeTableWord 4 0b0000 = some .init := by decide

theorem test_decode_clearScreen : decodeTableWord 4 0b0001 = some (.clearScreen 0) := by decide

theorem test_decode_clearScreen_fields :
    decode (.request { opSel := 0b0001, colour := 0x07E0, hz := 5 }) = .ok (.clearScreen 0x07E0) := by
  decide

theorem test_decode_sendPixelData :
    decode (.request
        { opSel := 0b0010, x0 := 10, y0 := 20, x1 := 11, y1 := 21, data := [0xF8, 0x00] })
      = .ok (.sendPixelData box [0xF8, 0x00]) := by decide

theorem test_decode_sendPixelDataAsync :
    decode (.request
        { opSel := 0b0011, x0 := 10, y0 := 20, x1 := 11, y1 := 21, data := [0xAA, 0xBB] })
      = .ok (.sendPixelDataAsync box [0xAA, 0xBB]) := by decide

theorem test_decode_setDrawWindow :
    decode (.request { opSel := 0b0100, x0 := 10, y0 := 20, x1 := 11, y1 := 21 })
      = .ok (.setDrawWindow box) := by decide

theorem test_decode_setDisplayEnabled :
    decode (.request { opSel := 0b0101, flag := true }) = .ok (.setDisplayEnabled true) := by decide

theorem test_decode_setSleep :
    decode (.request { opSel := 0b0110, flag := true }) = .ok (.setSleep true) := by decide

theorem test_decode_setUpdateRate :
    decode (.request { opSel := 0b0111, hz := 4000000 }) = .ok (.setUpdateRate 4000000) := by decide

theorem test_decode_swreset : decodeTableWord 8 0b00000001 = some (.swreset 0) := by decide

theorem test_decode_slpin : decodeTableWord 8 0b00010000 = some (.slpin 0) := by decide

theorem test_decode_slpout : decodeTableWord 8 0b00010001 = some (.slpout 0) := by decide

theorem test_decode_dispoff : decodeTableWord 8 0b00101000 = some (.dispoff 0) := by decide

theorem test_decode_dispon : decodeTableWord 8 0b00101001 = some (.dispon 0) := by decide

theorem test_decode_caset : decodeTableWord 40 0x0B000A002A = some (.caset 0x0A 0x0B 0) := by decide

theorem test_decode_raset : decodeTableWord 40 0x150014002B = some (.raset 0x14 0x15 0) := by decide

theorem test_decode_ramwr :
    decodeTableWord 24 0xBBAA2C = some (.ramwr [0xAA, 0xBB] (.sync 0)) := by decide

theorem test_decode_ramwr_async :
    decode (.frame { opc := 0x2C, data := [0xAA, 0xBB], variant := .async })
      = .ok (.ramwr [0xAA, 0xBB] .async) := by decide

theorem test_decode_madctl : decodeTableWord 16 0x0036 = some (.madctl 0x00 0) := by decide

theorem test_decode_colmod : decodeTableWord 16 0x053A = some (.colmod 0x05 0) := by decide

/-- R120: the two ends of the reserved selects. -/
theorem test_decode_reserved :
    decode (.request { opSel := 8 }) = .error .reservedSelect
      ∧ decode (.request { opSel := 15 }) = .error .reservedSelect := by decide

/-- R91, R94, R110: frames that are no wire command, each refused for its own reason. -/
theorem test_decode_bad_frames :
    decode (.frame { opc := 0x00 }) = .error .unknownOpcode
      ∧ decode (.frame { opc := 0x01, data := [0] }) = .error .badParameterCount
      ∧ decode (.frame { opc := 0x3A }) = .error .badParameterCount
      ∧ decode (.frame { opc := 0x2A, data := [1, 0x0A, 0, 0x0B] }) = .error .highByteNotZero
      ∧ decode (.frame { opc := 0x29, variant := .async }) = .error .asyncNotRamwr := by decide

/-- D4: the ten opcodes are pairwise distinct. -/
theorem test_opcodes_distinct : Config.opcodes.Nodup := by decide

/-! ### Well-formedness: an ill-formed term for each check -/

theorem test_illformed_rect_x : wellFormed (.setDrawWindow badX) = false := by decide

theorem test_illformed_rect_y : wellFormed (.sendPixelData badY []) = false := by decide

theorem test_illformed_rect_async : wellFormed (.sendPixelDataAsync badX []) = false := by decide

theorem test_illformed_madctl_reserved : wellFormed (.madctl 0b00000010 0) = false := by decide

theorem test_illformed_colmod_code :
    wellFormed (.colmod 7 0) = false ∧ wellFormed (.colmod 3 0) = false
      ∧ wellFormed (.colmod 6 0) = false ∧ wellFormed (.colmod 5 0) = true := by decide

/-- R35: equal bounds are a Rect, and so is one outside the panel. -/
theorem test_wellformed_rects :
    wellFormed (.setDrawWindow cell) = true ∧ wellFormed (.setDrawWindow widest) = true := by decide

/-! ### Operands -/

/-- S1, T20 to T30. -/
theorem test_pack_colour :
    packColour 32 0 0 = 0x0000 ∧ packColour 33 0 0 = 0x0800 ∧ packColour 0 64 0 = 0x0000
      ∧ packColour 0 100 0 = 0x0480 ∧ packColour 255 255 255 = 0xFFFF
      ∧ packColour 31 0 0 = 0xF800 ∧ packColour 0 63 0 = 0x07E0 ∧ packColour 0 0 31 = 0x001F
      ∧ packColour 10 20 5 = 0x5285 ∧ packColour 1 1 1 = 0x0821 := by decide

/-- S1, T23, T29. -/
theorem test_colour_bytes :
    colourBytes 0x07E0 = [0x07, 0xE0] ∧ colourBytes 0x0480 = [0x04, 0x80]
      ∧ colourBytes 0x5285 = [0x52, 0x85] := by decide

/-- T29 read back. -/
theorem test_unpack_colour :
    colourRed 0x5285 = 10 ∧ colourGreen 0x5285 = 20 ∧ colourBlue 0x5285 = 5 := by decide

/-- R105's formula by hand: 5 << 5 | 1 << 4 | 0 << 3 | 1 << 2 = 0xB4. -/
theorem test_pack_mdac :
    packMdac ⟨5, .bottomToTop, .rgb, .rightToLeft, 0⟩ = 0xB4
      ∧ packMdac ⟨0, .topToBottom, .bgr, .leftToRight, 0⟩ = 0x08 := by decide

/-- R104. -/
theorem test_colour_mode_bytes :
    colourModeByte .bits12 = 3 ∧ colourModeByte .bits16 = 5 ∧ colourModeByte .bits18 = 6
      ∧ colourModeByte .unknown = 7 := by decide

/-- The table of window arithmetic under T19. -/
theorem test_window_arithmetic :
    winBytes fullRect = 40960 ∧ winBytes box = 8 ∧ winBytes cell = 2 ∧ winBytes widest = 131072
      ∧ winBytes ⟨⟨200, 100⟩, ⟨255, 101⟩⟩ = 224 ∧ winBytes ⟨⟨0, 0⟩, ⟨1, 0⟩⟩ = 4 := by decide

/-! ### The framer -/

/-- T6: the pin is already low, `CS(0)` is still emitted, the hand-off ends. -/
theorem test_frame_after_handoff :
    (sendCommand 0x29 0 [] { ready with pinCs := .low, csHandoff := true }).trace
        = [.cs false, .dc false, .tx 0x29, .dc true, .cs true]
      ∧ (sendCommand 0x29 0 [] { ready with pinCs := .low, csHandoff := true }).csHandoff = false := by
  decide

/-- T2: the delay after the deselect. -/
theorem test_frame_delay :
    (sendCommand 0x01 150 [] ready).trace
      = [.cs false, .dc false, .tx 0x01, .dc true, .cs true, .wait 150] := by decide

/-- T7, T9 to T11: the transfer's life. -/
theorem test_transfer :
    (sendCommandAsync 0x2C [0xAA, 0xBB] ready).pinCs = .low
      ∧ (engineMove (engineMove (sendCommandAsync 0x2C [0xAA, 0xBB] ready))).asyncPending = []
      ∧ (engineMove landed).csHandoff = true ∧ (engineMove landed).pinCs = .low
      ∧ (deselectMove handed).pinCs = .high
      ∧ deselectMove (deselectMove handed) = deselectMove handed := by decide

/-- T12: the wire byte view. -/
theorem test_wire : wire handed.trace = [0x2C, 0xAA] := by decide

/-! ### The host operations -/

/-- P1, T59: the 37 events, copied. -/
theorem test_init_trace :
    nextIs (exec .init State.reset) (fun t => t.trace ==
      [.spiNew, .spiHz 8000000, .bl true,
       .rst true, .wait 200, .rst false, .wait 200, .rst true,
       .cs false, .dc false, .tx 0x01, .dc true, .cs true, .wait 150,
       .cs false, .dc false, .tx 0x3A, .dc true, .tx 0x05, .cs true,
       .cs false, .dc false, .tx 0x36, .dc true, .tx 0x00, .cs true,
       .cs false, .dc false, .tx 0x11, .dc true, .cs true, .wait 200,
       .cs false, .dc false, .tx 0x29, .dc true, .cs true]) = true := by decide

/-- P1: the end state; T53: a transfer in flight is no overlap for a second `init`. -/
theorem test_init_state :
    nextIs (exec .init State.reset) (fun t => t.drvState == .active && t.spiPresent
        && t.spiHz == 8000000 && t.pinCs == .high && t.pinDc == .high && t.pinRst == .high
        && t.pinBl == .high && !t.asyncBusy && !t.csHandoff && t.fault == none
        && waitTotal t.trace == 750 && wire t.trace == [0x01, 0x3A, 0x05, 0x36, 0x00, 0x11, 0x29])
        = true
      ∧ nextIs (exec .init flying) (fun t => t == flying) = true := by decide

/-- T32, S2: the window of the full panel and 40 960 data bytes; the length through the lemma. -/
theorem test_clearScreen_bytes : (constPixels 0x07E0).length = 40960 := by
  rw [constPixels, rep_length, colourBytes_eq]
  decide

/-- T33 on a panel of two pixels: the colour's bytes, high first, once a pixel. -/
theorem test_clearScreen_pattern : rep 2 (colourBytes 0x07E0) = [0x07, 0xE0, 0x07, 0xE0] := by decide

/-- T36, the events of an empty buffer; T37, an odd length in full. -/
theorem test_sendPixelData :
    emits (exec (.sendPixelData cell []) ready)
        [.cs false, .dc false, .tx 0x2A, .dc true, .tx 0, .tx 5, .tx 0, .tx 5, .cs true,
         .cs false, .dc false, .tx 0x2B, .dc true, .tx 0, .tx 5, .tx 0, .tx 5, .cs true,
         .cs false, .dc false, .tx 0x2C, .dc true, .cs true] = true
      ∧ nextIs (exec (.sendPixelData cell [0x11, 0x22, 0x33]) ready)
          (fun t => t.trace.length == 26 && t.trace.drop 22 == [.tx 0x11, .tx 0x22, .tx 0x33, .cs true])
          = true := by decide

/-- T36, T35: the length condition. -/
theorem test_length_mismatch :
    lengthMismatch cell [] = true
      ∧ lengthMismatch box [0xF8, 0x00, 0x07, 0xE0, 0x00, 0x1F, 0xFF, 0xFF] = false := by decide

/-- T38: 23 events, the last the start of the transfer, the frame left open. -/
theorem test_sendPixelDataAsync :
    nextIs (exec (.sendPixelDataAsync ⟨⟨0, 0⟩, ⟨0, 0⟩⟩ [0xAA, 0xBB]) ready)
      (fun t => t.trace.length == 23
        && t.trace.drop 18 == [.cs false, .dc false, .tx 0x2C, .dc true, .atx [0xAA, 0xBB]]
        && t.asyncBusy && t.pinCs == .low && t.asyncPending == [0xAA, 0xBB]) = true := by decide

/-- T14: the coordinates in their places. -/
theorem test_setDrawWindow :
    emits (exec (.setDrawWindow box) ready)
      [.cs false, .dc false, .tx 0x2A, .dc true, .tx 0x00, .tx 0x0A, .tx 0x00, .tx 0x0B, .cs true,
       .cs false, .dc false, .tx 0x2B, .dc true, .tx 0x00, .tx 0x14, .tx 0x00, .tx 0x15, .cs true]
      = true := by decide

/-- T18, T19, and T57: the Rect is checked before the state. -/
theorem test_setDrawWindow_refused :
    refusedIs (exec (.setDrawWindow badX) ready) .badRect = true
      ∧ refusedIs (exec (.setDrawWindow badY) ready) .badRect = true
      ∧ refusedIs (exec (.setDrawWindow badX) State.reset) .badRect = true := by decide

/-- T40, T41. -/
theorem test_setDisplayEnabled :
    emits (exec (.setDisplayEnabled true) ready)
        [.cs false, .dc false, .tx 0x29, .dc true, .cs true] = true
      ∧ emits (exec (.setDisplayEnabled false) ready)
        [.cs false, .dc false, .tx 0x28, .dc true, .cs true] = true := by decide

/-- T42, T43. -/
theorem test_setSleep :
    emits (exec (.setSleep true) ready)
        [.cs false, .dc false, .tx 0x10, .dc true, .cs true, .wait 200] = true
      ∧ emits (exec (.setSleep false) ready)
        [.cs false, .dc false, .tx 0x11, .dc true, .cs true, .wait 200] = true := by decide

/-- T44, T45. -/
theorem test_setUpdateRate :
    nextIs (exec (.setUpdateRate 4000000) ready)
        (fun t => t.trace == [.spiHz 4000000] && t.spiHz == 4000000) = true
      ∧ nextIs (exec (.setUpdateRate 0) ready)
        (fun t => t.trace == [.spiHz 0] && t.spiHz == 0) = true := by decide

/-! ### The wire commands alone (R91, R93, R130) -/

theorem test_swreset :
    emits (exec (.swreset 150) ready)
      [.cs false, .dc false, .tx 0x01, .dc true, .cs true, .wait 150] = true := by decide

theorem test_slpin :
    emits (exec (.slpin 0) ready) [.cs false, .dc false, .tx 0x10, .dc true, .cs true] = true := by
  decide

theorem test_slpout :
    emits (exec (.slpout 1) ready) [.cs false, .dc false, .tx 0x11, .dc true, .cs true, .wait 1]
      = true := by decide

theorem test_dispoff :
    emits (exec (.dispoff 0) ready) [.cs false, .dc false, .tx 0x28, .dc true, .cs true] = true := by
  decide

theorem test_dispon :
    emits (exec (.dispon 0) ready) [.cs false, .dc false, .tx 0x29, .dc true, .cs true] = true := by
  decide

/-- T4. -/
theorem test_caset :
    emits (exec (.caset 0x0A 0x0B 0) ready)
      [.cs false, .dc false, .tx 0x2A, .dc true, .tx 0x00, .tx 0x0A, .tx 0x00, .tx 0x0B, .cs true]
      = true := by decide

theorem test_raset :
    emits (exec (.raset 0x14 0xFF 0) ready)
      [.cs false, .dc false, .tx 0x2B, .dc true, .tx 0x00, .tx 0x14, .tx 0x00, .tx 0xFF, .cs true]
      = true := by decide

/-- T5, T8. -/
theorem test_ramwr :
    emits (exec (.ramwr [] (.sync 0)) ready)
        [.cs false, .dc false, .tx 0x2C, .dc true, .cs true] = true
      ∧ nextIs (exec (.ramwr [] .async) ready)
        (fun t => t.trace == [.cs false, .dc false, .tx 0x2C, .dc true, .atx []]
          && completionEnabled t) = true := by decide

theorem test_madctl :
    emits (exec (.madctl 0xB4 0) ready)
        [.cs false, .dc false, .tx 0x36, .dc true, .tx 0xB4, .cs true] = true
      ∧ refusedIs (exec (.madctl 0x01 0) ready) .badMdac = true := by decide

/-- T3, R122. -/
theorem test_colmod :
    emits (exec (.colmod 5 0) ready)
        [.cs false, .dc false, .tx 0x3A, .dc true, .tx 5, .cs true] = true
      ∧ refusedIs (exec (.colmod 3 0) ready) .badColourMode = true
      ∧ refusedIs (exec (.colmod 6 0) ready) .badColourMode = true
      ∧ refusedIs (exec (.colmod 7 0) ready) .badColourMode = true := by decide

/-! ### Violations and refusals -/

/-- T50, T51. -/
theorem test_not_active :
    faultIs (exec (.clearScreen 0) State.reset) .notActive = true
      ∧ faultIs (exec (.setUpdateRate 1000000) State.reset) .notActive = true := by decide

/-- T52, T54, T58. -/
theorem test_overlap :
    faultIs (exec (.setSleep true) flying) .asyncOverlap = true
      ∧ faultIs (exec (.sendPixelDataAsync ⟨⟨0, 0⟩, ⟨0, 0⟩⟩ [0xCC, 0xDD]) flying) .asyncOverlap = true
      ∧ faultIs (exec (.setUpdateRate 4000000) flying) .asyncOverlap = true := by decide

/-- T56: nothing emitted, the run marked. -/
theorem test_bad_op :
    refusedIs (step { ready with script := [.present (.request { opSel := 9 })] }) .badOp = true
      ∧ (advance { ready with script := [.present (.request { opSel := 9 })] }).refusedSeen = true
      ∧ (advance { ready with script := [.present (.request { opSel := 9 })] }).trace = [] := by
  decide

/-- R31: a second violation of another kind leaves the first code. -/
theorem test_fault_sticky :
    (advance (advance (presenting (.setSleep true) State.reset))).fault = some .notActive := by decide

/-- The packet of an opcode-table word is what the next step runs. -/
theorem test_fetch :
    nextIs (step (ready.withFetchWord 8 0x29))
      (fun t => t.trace == [.cs false, .dc false, .tx 0x29, .dc true, .cs true]) = true
      ∧ nextIs (step (State.reset.withFetchWord 4 0)) (fun t => t.drvState == .active) = true := by
  decide

/-! ### Witnesses: the hypotheses of the obligations can be met -/

/-- The small states are ones a run can stand in. -/
theorem witness_inv_ready : Inv ready := by
  constructor <;> simp [ready, State.reset, lastFrameOpen]

theorem witness_inv_flying : Inv flying := by
  constructor <;> simp [flying, ready, State.reset, lastFrameOpen, openAfter]

theorem witness_inv_landed : Inv landed := by
  constructor <;> simp [landed, flying, ready, State.reset, lastFrameOpen, openAfter]

theorem witness_inv_handed : Inv handed := by
  constructor <;> simp [handed, landed, flying, ready, State.reset, lastFrameOpen, openAfter]

theorem witness_framed_ready : Framed ready := ⟨.idle, rfl, by simp [ready, State.reset]⟩

theorem witness_framed_flying : Framed flying := ⟨.flight, by decide, by simp [flying, ready, State.reset]⟩

theorem witness_framed_landed : Framed landed :=
  ⟨.flight, by decide, by simp [landed, flying, ready, State.reset]⟩

theorem witness_framed_handed : Framed handed :=
  ⟨.handed, by decide, by simp [handed, landed, flying, ready, State.reset]⟩

/-- ParameterlessCommandsSendOneFrame, AddressSetCommandsSendFourBytes, RamWriteSendsItsBytes,
ClearScreenLeavesTheFullWindow, PeerResetLeavesNoValue, SleepAndDisplayReachThePeer,
WaitsOfInitAndSleep. -/
theorem witness_Ready : Ready ready := ⟨rfl, rfl⟩

/-- ResetLeavesTheTabledValues, its last two clauses. -/
theorem witness_ResetLeavesTheTabledValues :
    (ready.drvState ≠ .uninitialized ∧ ∃ t, step ready = .next t) ∧ State.reset.asyncBusy = false :=
  ⟨⟨by decide, ready, rfl⟩, rfl⟩

theorem witness_StepRunsTheDecodedInstruction :
    (presenting (.setSleep true) ready).fault = none
      ∧ (presenting (.setSleep true) ready).script = [.present (encode (.setSleep true))]
      ∧ decode (encode (.setSleep true)) = .ok (.setSleep true) := by decide

theorem witness_PlacedWordIsRunNext :
    State.reset.fault = none ∧ decodeTableWord 4 0 = some .init := by decide

/-- SelectNamesTheOperation: a request for each clause, the reserved range at both ends. -/
theorem witness_SelectNamesTheOperation :
    (HostRequest.mk 0 0 0 0 0 0 false 0 []).opSel = 0
      ∧ (HostRequest.mk 1 0 0 0 0 0 false 0 []).opSel = 1
      ∧ (HostRequest.mk 2 0 0 0 0 0 false 0 []).opSel = 2
      ∧ (HostRequest.mk 3 0 0 0 0 0 false 0 []).opSel = 3
      ∧ (HostRequest.mk 4 0 0 0 0 0 false 0 []).opSel = 4
      ∧ (HostRequest.mk 5 0 0 0 0 0 false 0 []).opSel = 5
      ∧ (HostRequest.mk 6 0 0 0 0 0 false 0 []).opSel = 6
      ∧ (HostRequest.mk 7 0 0 0 0 0 false 0 []).opSel = 7
      ∧ 8 ≤ (HostRequest.mk 8 0 0 0 0 0 false 0 []).opSel.toNat
      ∧ 8 ≤ (HostRequest.mk 15 0 0 0 0 0 false 0 []).opSel.toNat := by decide

theorem witness_ReservedSelectIsRefused :
    ready.fault = none
      ∧ ({ ready with script := [.present (.request { opSel := 8 })] } : State).script
        = .present (.request { opSel := 8 }) :: [] ∧ 8 ≤ (8 : Sel).toNat := by decide

/-- FirstFaultIsKept: a state that faults afresh, and one whose fault stands. -/
theorem witness_FirstFaultIsKept :
    ((presenting (.setSleep true) State.reset).fault = none
        ∧ step (presenting (.setSleep true) State.reset) = .fault .notActive)
      ∧ ({ ready with fault := some .asyncOverlap } : State).fault = some .asyncOverlap :=
  ⟨⟨rfl, rfl⟩, rfl⟩

theorem witness_EncodeInvertsFrameDecode :
    decode (.frame { opc := 0x2B, data := [0, 0, 0, 0x9F] }) = .ok (.raset 0 0x9F 0)
      ∧ decode (.frame { opc := 0x3A, data := [5] }) = .ok (.colmod 5 0)
      ∧ decode (.frame { opc := 0x01 }) = .ok (.swreset 0)
      ∧ decode (.frame { opc := 0x2C, variant := .async }) = .ok (.ramwr [] .async) := by decide

/-- The bounds of the legal channels. -/
theorem witness_ColourPackingRoundTrips :
    (31 : Byte).toNat ≤ 31 ∧ (63 : Byte).toNat ≤ 63 ∧ (31 : Byte).toNat ≤ 31 := by decide

theorem witness_MdacByteLayout :
    (MdacConfig.mk 7 .bottomToTop .bgr .rightToLeft 0).reserved = 0 := by decide

/-- The widest Rect and one cell. -/
theorem witness_WindowArithmeticBounds :
    (widest.topLeft.x.toNat ≤ widest.bottomRight.x.toNat
        ∧ widest.topLeft.y.toNat ≤ widest.bottomRight.y.toNat)
      ∧ cell.topLeft.x.toNat ≤ cell.bottomRight.x.toNat
      ∧ cell.topLeft.y.toNat ≤ cell.bottomRight.y.toNat := by decide

/-- TransferEngineSteps, SendPixelDataAsyncLeavesTheFrameOpen: a byte pending, none pending, nothing in flight. -/
theorem witness_TransferEngineSteps :
    (flying.asyncBusy = true ∧ flying.asyncPending = 0xAA :: [])
      ∧ (landed.asyncBusy = true ∧ landed.asyncPending = []) ∧ ready.asyncBusy = false := by decide

theorem witness_EnvironmentDeselect :
    handed.csHandoff = true ∧ ready.csHandoff = false := by decide

theorem witness_TransferRunsToCompletion :
    flying.fault = none ∧ flying.script = [] ∧ flying.asyncBusy = true := by decide

theorem witness_EitherOrderOfCompletionAndRequest :
    (landed.fault = none ∧ landed.drvState = .active ∧ landed.asyncBusy = true
        ∧ landed.asyncPending = [])
      ∧ handed.fault = none ∧ handed.drvState = .active ∧ handed.asyncBusy = false
      ∧ handed.csHandoff = true := by decide

/-- InitBringsUpTheBlock, InitTwiceIsInitOnce, PeerRegistersAfterInit, WaitsOfInitAndSleep. -/
theorem witness_Init : State.reset.drvState ≠ .active ∧ ready.drvState = .active := by decide

/-- SetDrawWindowSendsTwoFrames and the two pixel operations: the coordinates in order, with equal
bounds and at their extremes, then disordered in x and in y; admitted, not active, in flight. -/
theorem witness_WindowOperations :
    (cell.topLeft.x.toNat ≤ cell.bottomRight.x.toNat ∧ cell.topLeft.y.toNat ≤ cell.bottomRight.y.toNat)
      ∧ (widest.topLeft.x.toNat ≤ widest.bottomRight.x.toNat
        ∧ widest.topLeft.y.toNat ≤ widest.bottomRight.y.toNat)
      ∧ badX.bottomRight.x.toNat < badX.topLeft.x.toNat
      ∧ badY.bottomRight.y.toNat < badY.topLeft.y.toNat := by decide

/-- The three states an operation can meet: admitted, not active, in flight (ClearScreenFillsThePanel,
SetDisplayEnabledSendsOneFrame, SetSleepSendsOneFrameAndWaits, SetUpdateRateSetsTheRate and the window
operations). -/
theorem witness_Admission :
    Ready ready ∧ State.reset.drvState ≠ .active
      ∧ flying.drvState = .active ∧ flying.asyncBusy = true :=
  ⟨⟨rfl, rfl⟩, by decide, rfl, rfl⟩

/-- ConfigurationCommandsSendOneByte: the one code and its neighbours, reserved bits 0 at the top of the
range and not 0 at its bottom. -/
theorem witness_ConfigurationCommandsSendOneByte :
    (5 : Byte) = 5 ∧ ((3 : Byte) ≠ 5 ∧ (4 : Byte) ≠ 5 ∧ (6 : Byte) ≠ 5 ∧ (7 : Byte) ≠ 5)
      ∧ (0xFC : Byte).toNat % 4 = 0 ∧ (0x01 : Byte).toNat % 4 ≠ 0 := by decide

/-- OverlapWindowClosesAtCompletion. -/
theorem witness_OverlapWindowClosesAtCompletion :
    (flying.drvState = .active ∧ flying.asyncBusy = true ∧ rectOrdered cell = true)
      ∧ landed.drvState = .active ∧ landed.asyncBusy = true ∧ landed.asyncPending = [] := by decide

/-- OperationsNeedActive. -/
theorem witness_OperationsNeedActive :
    State.reset.drvState ≠ .active ∧ rectOrdered cell = true := by decide

/-- ChecksDecideTheOutcome: each right-hand side holds somewhere. -/
theorem witness_ChecksDecideTheOutcome :
    wellFormed (.colmod 7 0) = false
      ∧ (wellFormed (.setSleep true) = true ∧ State.reset.drvState ≠ .active)
      ∧ (flying.drvState = .active ∧ flying.asyncBusy = true)
      ∧ wellFormed (.colmod 5 0) = true := by decide

/-- LengthMismatchIsNoFault. -/
theorem witness_LengthMismatchIsNoFault :
    rectOrdered cell = true ∧ ready.drvState = .active ∧ ready.asyncBusy = false
      ∧ lengthMismatch cell [0x11, 0x22, 0x33] = true := by decide

/-- FrameOfEveryInstructionButInit: one instruction that sets the rate, one that does not. -/
theorem witness_FrameOfEveryInstructionButInit :
    (∃ t, exec (.setUpdateRate 0) ready = .next t) ∧ ∃ t, exec (.setSleep true) ready = .next t :=
  ⟨⟨_, rfl⟩, ⟨_, rfl⟩⟩

/-- FrameOfInit: from reset, and once up. -/
theorem witness_FrameOfInit :
    (∃ t, exec .init State.reset = .next t) ∧ ∃ t, exec .init ready = .next t := ⟨⟨_, rfl⟩, ⟨_, rfl⟩⟩

/-- TraceOnlyGrowsAndIsNotRead. -/
theorem witness_TraceOnlyGrowsAndIsNotRead :
    (∃ t, step landed = .next t) ∧ ∃ t, exec (.setSleep true) ready = .next t := ⟨⟨_, rfl⟩, ⟨_, rfl⟩⟩

/-- DeadLatchesAreNotRead: both ways to meet the hypothesis. -/
theorem witness_DeadLatchesAreNotRead :
    (Instr.setSleep true ≠ .init ∨ ready.drvState ≠ .active)
      ∧ (Instr.init ≠ .init ∨ State.reset.drvState ≠ .active) := by decide

/-- RateChangesNoFrame. -/
theorem witness_RateChangesNoFrame :
    Instr.setSleep true ≠ .init ∧ (∀ hz, Instr.setSleep true ≠ .setUpdateRate hz)
      ∧ ∃ t, exec (.setSleep true) ready = .next t := ⟨by decide, by simp, _, rfl⟩

/-- StepKeepsTheInvariants and StepKeepsTheFraming: a state that takes a step of each agent. -/
theorem witness_StepKeepsTheInvariants :
    (Inv landed ∧ Framed landed ∧ ∃ t, step landed = .next t)
      ∧ (Inv State.reset ∧ ∃ t, step { State.reset with script := [.present (encode .init)] } = .next t) :=
  ⟨⟨witness_inv_landed, witness_framed_landed, _, rfl⟩,
    ⟨by constructor <;> simp [State.reset], _, rfl⟩⟩

/-- EveryTransferCompletesOnce: with a transfer in flight and with none. -/
theorem witness_EveryTransferCompletesOnce :
    (started landed.trace = completed landed.trace + landed.asyncBusy.toNat
        ∧ ∃ t, step landed = .next t)
      ∧ started handed.trace = completed handed.trace + handed.asyncBusy.toNat :=
  ⟨⟨by decide, _, rfl⟩, by decide⟩

/-- PeerColourModeIsSixteenBit: a RAM write in progress, and a COLMOD presented after a first frame. -/
theorem witness_PeerColourModeIsSixteenBit :
    (OnlySixteenBit landed ∧ ∃ t, step landed = .next t)
      ∧ OnlySixteenBit (presenting (.colmod 5 0) ready)
      ∧ ∃ t, step (presenting (.colmod 5 0) ready) = .next t :=
  ⟨⟨⟨.inl (by decide), .inr (by decide)⟩, _, rfl⟩,
    ⟨.inl (by decide), .inl (by decide)⟩, _, rfl⟩

/-- TransportIsCreatedOnce: before `init` and after it. -/
theorem witness_TransportIsCreatedOnce :
    (Inv State.reset ∧ (State.reset.drvState = .uninitialized → State.reset.spiPresent = false)
        ∧ State.reset.trace.count .spiNew = State.reset.spiPresent.toNat
        ∧ ∃ t, step State.reset = .next t)
      ∧ ({ ready with trace := [.spiNew] } : State).trace.count .spiNew = ready.spiPresent.toNat :=
  ⟨⟨by constructor <;> simp [State.reset], fun _ => rfl, rfl, _, rfl⟩, by decide⟩

/-- RateIsTheLastSet: without a transport and with one. -/
theorem witness_RateIsTheLastSet :
    ((State.reset.spiPresent = true → rateAfter none State.reset.trace = some State.reset.spiHz)
        ∧ ∃ t, step State.reset = .next t)
      ∧ rateAfter none ({ ready with trace := [.spiHz 8000000] } : State).trace = some ready.spiHz :=
  ⟨⟨by simp [State.reset], _, rfl⟩, by decide⟩

/-- OnlyInitMovesTheSequencer. -/
theorem witness_OnlyInitMovesTheSequencer :
    ∃ t, step { State.reset with script := [.present (encode .init)] } = .next t
      ∧ t.drvState ≠ State.reset.drvState := ⟨_, rfl, by decide⟩

/-- PeerWindowFollowsTheRequest, at both ends of the coordinates. -/
theorem witness_PeerWindowFollowsTheRequest :
    rectOrdered widest = true ∧ rectOrdered cell = true ∧ ready.drvState = .active
      ∧ ready.asyncBusy = false := by decide

/-- NewRateHoldsFromTheNextByte. -/
theorem witness_NewRateHoldsFromTheNextByte :
    (∃ t, exec (.setUpdateRate 4000000) ready = .next t)
      ∧ ∀ g, Event.spiHz g ∉ [Event.tx 0x2C, .envCs] := ⟨⟨_, rfl⟩, by simp⟩

end Sys2Proof.Tests
end

section
/-! Proofs about the trace: no operation reads it, and each only appends to it (spec/10_state.md R32). -/

namespace Sys2Proof.Machine

/-! ### Appending to the trace without reading it -/

/-- R32 for one operation: it appends events to the trace, and from any other trace it appends the same
events and ends with every other field the same. -/
def AppendsUnread (f : State → State) : Prop :=
  ∀ s, ∃ events, (f s).trace = s.trace ++ events
    ∧ ∀ tr, f { s with trace := tr } = { f s with trace := tr ++ events }

theorem AppendsUnread.comp {f g : State → State} (hg : AppendsUnread g) (hf : AppendsUnread f) :
    AppendsUnread fun s => g (f s) := by
  intro s
  obtain ⟨first, hfs, hft⟩ := hf s
  obtain ⟨second, hgs, hgt⟩ := hg (f s)
  exact ⟨first ++ second, by simp [hgs, hfs], fun tr => by
    beta_reduce; rw [hft, hgt, List.append_assoc]⟩

theorem loadSelect_appendsUnread (sel : Sel) : AppendsUnread (loadSelect sel) :=
  fun _ => ⟨[], by simp, fun _ => by simp [loadSelect]⟩

theorem retire_appendsUnread : AppendsUnread retire :=
  fun _ => ⟨[], by simp, fun _ => by simp [retire]⟩

theorem setDrvState_appendsUnread (d : DrvState) : AppendsUnread (setDrvState d) :=
  fun _ => ⟨[], by simp, fun _ => by simp [setDrvState]⟩

theorem sendCommand_appendsUnread (opc : Byte) (delay : Half) (data : List Byte) :
    AppendsUnread (sendCommand opc delay data) :=
  fun _ => ⟨syncFrame opc delay data, by simp [sendCommand_eq], fun _ => by simp [sendCommand_eq]⟩

theorem initTransport_appendsUnread : AppendsUnread initTransport :=
  fun _ => ⟨[.spiNew, .spiHz 8000000], by simp [initTransport_eq],
    fun _ => by simp [initTransport_eq]⟩

theorem initBacklight_appendsUnread : AppendsUnread initBacklight :=
  fun _ => ⟨[.bl true], by simp [initBacklight_eq], fun _ => by simp [initBacklight_eq]⟩

theorem initHardwareReset_appendsUnread : AppendsUnread initHardwareReset :=
  fun _ => ⟨[.rst true, .wait 200, .rst false, .wait 200, .rst true], by simp [initHardwareReset_eq],
    fun _ => by simp [initHardwareReset_eq]⟩

/-- The steps of `init` in their order (R150). -/
theorem initSequence_appendsUnread : AppendsUnread initSequence :=
  have softwareReset : AppendsUnread initSoftwareReset :=
    (sendCommand_appendsUnread _ _ _).comp (setDrvState_appendsUnread _)
  have pixelFormat : AppendsUnread initPixelFormat :=
    (sendCommand_appendsUnread _ _ _).comp (setDrvState_appendsUnread _)
  have memoryAccess : AppendsUnread initMemoryAccess := sendCommand_appendsUnread _ _ _
  have wake : AppendsUnread initWake := sendCommand_appendsUnread _ _ _
  have enable : AppendsUnread initEnable := sendCommand_appendsUnread _ _ _
  (setDrvState_appendsUnread _).comp <| enable.comp <| wake.comp <| memoryAccess.comp <|
    pixelFormat.comp <| softwareReset.comp <| initHardwareReset_appendsUnread.comp <|
    initBacklight_appendsUnread.comp initTransport_appendsUnread

/-- The events of an effect are fixed by the instruction alone. -/
theorem effect_appendsUnread (i : Instr) : AppendsUnread (effect i) := by
  intro s
  cases i with
  | ramwr data variant =>
    cases variant with
    | sync delay => exact ⟨_, rfl, fun _ => rfl⟩
    | async => exact ⟨_, rfl, fun _ => rfl⟩
  | _ => exact ⟨_, rfl, fun _ => rfl⟩

/-! ### Instructions and the other agents -/

/-- R32 for an instruction: the three things it can have done (`exec_next_cases`), each from any other
trace as well. -/
theorem exec_appendsUnread {i : Instr} {s t : State} (h : exec i s = .next t) :
    ∃ events, t.trace = s.trace ++ events
      ∧ ∀ tr, exec i { s with trace := tr } = .next { t with trace := tr ++ events } := by
  obtain ⟨rfl, ha, rfl⟩ | ⟨rfl, ha, rfl⟩ | ⟨hi, hw, ha, hb, rfl⟩ := exec_next_cases h
  · exact ⟨[], by simp, fun tr => by simp [exec_init_active { t with trace := tr } ha]⟩
  · obtain ⟨events, hs, htr⟩ := (retire_appendsUnread.comp
      (initSequence_appendsUnread.comp (loadSelect_appendsUnread Config.selInit))) s
    exact ⟨events, hs, fun tr =>
      (exec_init_first { s with trace := tr } ha).trans (congrArg Host.Outcome.next (htr tr))⟩
  · obtain ⟨events, hs, htr⟩ := effect_appendsUnread i s
    exact ⟨events, hs, fun tr => by rw [exec_ready i { s with trace := tr } hi hw ha hb, htr]⟩

theorem trace_prefix_engineMove (s : State) : s.trace <+: (engineMove s).trace := by
  obtain ⟨-, -, h⟩ | ⟨-, -, h⟩ | ⟨-, h⟩ := engineMove_cases s
  · simp [h]
  · simp [h, completionStep_eq]
  · simp [h]

theorem trace_prefix_deselectMove (s : State) : s.trace <+: (deselectMove s).trace := by
  obtain ⟨-, h⟩ | ⟨-, h⟩ := deselectMove_cases s <;> simp [h]

/-- The trace only grows (R32), whichever agent moves. -/
theorem trace_prefix_step {s t : State} (h : step s = .next t) : s.trace <+: t.trace := by
  obtain ⟨-, ⟨_, rest, i, -, -, hexec⟩ | ⟨rest, rfl⟩ | ⟨rest, -, rfl⟩⟩ := step_next_cases h
  · obtain ⟨events, ht, -⟩ := exec_appendsUnread hexec
    exact ⟨events, ht.symm⟩
  · exact trace_prefix_engineMove { s with script := rest }
  · exact trace_prefix_deselectMove { s with script := rest }

end Sys2Proof.Machine

namespace Sys2Proof

/-- Settles O39: every step's trace extends the old one, by the cases of a step; every completed
instruction appends events that the trace does not decide, by the cases of an instruction. -/
theorem traceOnlyGrowsAndIsNotRead : Obligations.TraceOnlyGrowsAndIsNotRead :=
  ⟨fun _ _ h => Machine.trace_prefix_step h, fun _ _ _ h => Machine.exec_appendsUnread h⟩

end Sys2Proof
end

section
/-! Proofs about the encodings: the colour fields and the operation select (spec/30_encoding.md R107,
R108, R112). -/

namespace Sys2Proof.Machine

/-! ### The channels of a packed colour -/

/-- R107: red is truncated to 5 bits. -/
@[simp] theorem colourRed_packColour_toNat (red green blue : Byte) :
    (colourRed (packColour red green blue)).toNat = red.toNat % 32 := by
  rw [colourRed_toNat, packColour_toNat]
  omega

/-- R107: green is truncated to 6 bits. -/
@[simp] theorem colourGreen_packColour_toNat (red green blue : Byte) :
    (colourGreen (packColour red green blue)).toNat = green.toNat % 64 := by
  rw [colourGreen_toNat, packColour_toNat]
  omega

/-- R107: blue is truncated to 5 bits. -/
@[simp] theorem colourBlue_packColour_toNat (red green blue : Byte) :
    (colourBlue (packColour red green blue)).toNat = blue.toNat % 32 := by
  rw [colourBlue_toNat, packColour_toNat]
  omega

/-- Packing reads each channel only modulo its field's size. -/
theorem packColour_congr {red red' green green' blue blue' : Byte}
    (hr : red.toNat % 32 = red'.toNat % 32) (hg : green.toNat % 64 = green'.toNat % 64)
    (hb : blue.toNat % 32 = blue'.toNat % 32) :
    packColour red green blue = packColour red' green' blue' := by
  apply BitVec.eq_of_toNat_eq
  rw [packColour_toNat, packColour_toNat, hr, hg, hb]

/-- A byte rebuilt from its residue has that residue, the modulus dividing 256. -/
theorem ofNat_mod_toNat_mod (b : Byte) {m : Nat} (hm : m ∣ 2 ^ 8) :
    (BitVec.ofNat 8 (b.toNat % m)).toNat % m = b.toNat % m := by
  rw [BitVec.toNat_ofNat, Nat.mod_mod_of_dvd _ hm, Nat.mod_mod]

/-- R108: every 16-bit value is the packing of its own channels. -/
@[simp] theorem packColour_unpack (c : Half) :
    packColour (colourRed c) (colourGreen c) (colourBlue c) = c := by
  apply BitVec.eq_of_toNat_eq
  have hc := c.isLt
  rw [packColour_toNat, colourRed_toNat, colourGreen_toNat, colourBlue_toNat]
  omega

/-! ### The operation select -/

/-- A request decodes by the select it carries. -/
theorem decode_of_opSel {r : HostRequest} {sel : Sel} (h : r.opSel = sel) :
    decode (.request r) = decodeRequest { r with opSel := sel } := by
  rw [← h]
  rfl

/-- The selects from 8 on are none of the eight codes (R112). -/
theorem decodeRequest_reserved {r : HostRequest} (h : 8 ≤ r.opSel.toNat) :
    decodeRequest r = .error .reservedSelect := by
  have ne_code (code : Sel) (hcode : code.toNat < 8) : r.opSel ≠ code := by
    rintro rfl
    omega
  simp (disch := decide) only [decodeRequest, ne_code, if_false]

end Sys2Proof.Machine

namespace Sys2Proof

open Machine

/-- Settles O10: the packing depends on the residues of the channels only, and each field of the
packed number is its channel's residue. -/
theorem colourChannelsAreTruncated : Obligations.ColourChannelsAreTruncated :=
  ⟨fun red green blue => packColour_congr (ofNat_mod_toNat_mod red (by decide)).symm
      (ofNat_mod_toNat_mod green (by decide)).symm (ofNat_mod_toNat_mod blue (by decide)).symm,
    fun red green blue => ⟨colourRed_packColour_toNat red green blue,
      colourGreen_packColour_toNat red green blue, colourBlue_packColour_toNat red green blue⟩⟩

/-- Settles O11: a channel in its legal range is its own residue, so truncation (O10's lemmas) keeps
it; the other direction puts the three fields of the number together again. -/
theorem colourPackingRoundTrips : Obligations.ColourPackingRoundTrips := by
  refine ⟨fun red green blue hr hg hb => ⟨?_, ?_, ?_⟩, packColour_unpack, by decide⟩ <;>
    apply BitVec.eq_of_toNat_eq
  · rw [colourRed_packColour_toNat, Nat.mod_eq_of_lt (by omega)]
  · rw [colourGreen_packColour_toNat, Nat.mod_eq_of_lt (by omega)]
  · rw [colourBlue_packColour_toNat, Nat.mod_eq_of_lt (by omega)]

/-- Settles O5: with its select known, a request decodes by that select's branch, which names the
fields it takes; from 8 on no branch is met. -/
theorem selectNamesTheOperation : Obligations.SelectNamesTheOperation := fun _ =>
  ⟨decode_of_opSel, decode_of_opSel, decode_of_opSel, decode_of_opSel, decode_of_opSel,
    decode_of_opSel, decode_of_opSel, decode_of_opSel, decodeRequest_reserved⟩

end Sys2Proof
end

section
/-! Proofs about the framer, the transfer engine and the environment: what the two primitives leave, the
frame the peer reads from them, the moves of the other two agents (spec/40_framer.md R130 to R140). -/

namespace Sys2Proof.Machine

open Safety

/-! ### The two primitives -/

/-- R130: the synchronous primitive changes what `afterSync` says and the dead latches. -/
theorem sendCommand_sameButLatches (opc : Byte) (delay : Half) (data : List Byte) (s : State) :
    SameButLatches (sendCommand opc delay data s) (afterSync (syncFrame opc delay data) s) := by
  rw [sendCommand_eq]
  rfl

/-- R134: the asynchronous primitive changes what `afterAsync` says and the dead latches. -/
theorem sendCommandAsync_sameButLatches (opc : Byte) (data : List Byte) (s : State) :
    SameButLatches (sendCommandAsync opc data s) (afterAsync (asyncFrame opc data) data s) := by
  rw [sendCommandAsync_eq]
  rfl

@[simp] theorem sendCommand_trace (opc : Byte) (delay : Half) (data : List Byte) (s : State) :
    (sendCommand opc delay data s).trace = s.trace ++ syncFrame opc delay data := by
  rw [sendCommand_eq]

@[simp] theorem sendCommandAsync_trace (opc : Byte) (data : List Byte) (s : State) :
    (sendCommandAsync opc data s).trace = s.trace ++ asyncFrame opc data := by
  rw [sendCommandAsync_eq]

/-- R140: a frame's start ends the hand-off. -/
@[simp] theorem sendCommand_csHandoff (opc : Byte) (delay : Half) (data : List Byte) (s : State) :
    (sendCommand opc delay data s).csHandoff = false := by
  rw [sendCommand_eq]

/-- R140: a frame's start ends the hand-off. -/
@[simp] theorem sendCommandAsync_csHandoff (opc : Byte) (data : List Byte) (s : State) :
    (sendCommandAsync opc data s).csHandoff = false := by
  rw [sendCommandAsync_eq]

@[simp] theorem sendCommandAsync_completionEnabled (opc : Byte) (data : List Byte) (s : State) :
    completionEnabled (sendCommandAsync opc data s) = data.isEmpty := by
  simp [completionEnabled, sendCommandAsync_eq]

/-- R130: four events of the command phase, one a byte, the closing `CS(1)`, and the wait if any. -/
theorem syncFrame_length (opc : Byte) (delay : Half) (data : List Byte) :
    (syncFrame opc delay data).length = 5 + data.length + if 0 < delay.toNat then 1 else 0 := by
  by_cases h : 0 < delay.toNat <;> simp [syncFrame, h] <;> omega

/-! ### The frame view -/

/-- The wire bytes of the frame in progress are cut where a list begins that adds none to it. -/
theorem wireOfFrame_append (tr : List Event) {new : List Event} (hnew : wireOfFrame new = []) :
    wireOfFrame (tr ++ new) = wireOfFrame tr := by
  induction tr with
  | nil => exact hnew
  | cons e rest ih => simp [wireOfFrame, ih]

/-- The frame view of a trace is kept, whatever it is, when events follow that add no byte to its last
frame (R8). -/
theorem frames_append (tr : List Event) {new : List Event} (hnew : wireOfFrame new = []) :
    frames (tr ++ new) = frames tr ++ frames new := by
  induction tr with
  | nil => rfl
  | cons e rest ih =>
    simp only [List.cons_append, frames, wireOfFrame_append rest hnew, ih]
    split
    · cases wireOfFrame rest <;> rfl
    · rfl

/-- Without a `DC(0)` every wire byte belongs to the frame in progress (R8). -/
theorem wireOfFrame_eq_wire {tr : List Event} (h : .dc false ∉ tr) : wireOfFrame tr = wire tr := by
  induction tr with
  | nil => rfl
  | cons e rest ih =>
    obtain ⟨he, hrest⟩ := not_or.mp (List.mem_cons.not.mp h)
    simp [wireOfFrame, wire, Ne.symm he, ih hrest]

/-- Without a `DC(0)` no frame begins (R8). -/
theorem frames_eq_nil {tr : List Event} (h : .dc false ∉ tr) : frames tr = [] := by
  induction tr with
  | nil => rfl
  | cons e rest ih =>
    obtain ⟨he, hrest⟩ := not_or.mp (List.mem_cons.not.mp h)
    simp [frames, Ne.symm he, ih hrest]

/-- `CS(0)`, `DC(0)` and no further `DC(0)`: after any trace the peer reads one frame more, of the wire
bytes that follow (R8). -/
theorem frames_append_frame (tr : List Event) {phase : List Event} {opc : Byte} {params : List Byte}
    (hphase : .dc false ∉ phase) (hwire : wire phase = opc :: params) :
    frames (tr ++ .cs false :: .dc false :: phase) = frames tr ++ [(opc, params)] := by
  rw [frames_append tr (by simp [wireOfFrame, wireOf])]
  simp [frames, wireOfFrame_eq_wire hphase, hwire, frames_eq_nil hphase]

theorem frames_append_syncFrame (tr : List Event) (opc : Byte) (delay : Half) (data : List Byte) :
    frames (tr ++ syncFrame opc delay data) = frames tr ++ [(opc, data)] :=
  frames_append_frame tr (by split <;> simp) (wire_syncFrame opc delay data)

theorem frames_append_asyncFrame (tr : List Event) (opc : Byte) (data : List Byte) :
    frames (tr ++ asyncFrame opc data) = frames tr ++ [(opc, data)] :=
  frames_append_frame tr (by simp) (wire_asyncFrame opc data)

/-! ### The engine and the environment -/

theorem engineMove_pending {s : State} {b : Byte} {rest : List Byte} (hb : s.asyncBusy = true)
    (hp : s.asyncPending = b :: rest) : engineMove s = { s with asyncPending := rest } := by
  simpa [hb, hp] using engineMove_cases s

theorem engineMove_drained {s : State} (hb : s.asyncBusy = true) (hp : s.asyncPending = []) :
    engineMove s = completionStep s := by
  simpa [hb, hp] using engineMove_cases s

theorem engineMove_notBusy {s : State} (hb : s.asyncBusy = false) : engineMove s = s := by
  simpa [hb] using engineMove_cases s

theorem deselectMove_handed {s : State} (h : s.csHandoff = true) :
    deselectMove s = { s with trace := s.trace ++ [.envCs], pinCs := .high, csHandoff := false } := by
  simpa [h] using deselectMove_cases s

theorem deselectMove_notHanded {s : State} (h : s.csHandoff = false) : deselectMove s = s := by
  simpa [h] using deselectMove_cases s

end Sys2Proof.Machine

namespace Sys2Proof

open Machine

/-- Settles O14: the primitive's events are those of `syncFrame`, of which the number and the frame
view are known. -/
theorem synchronousFrame : Obligations.SynchronousFrame := fun opc delay data s =>
  ⟨sendCommand_sameButLatches opc delay data s,
    by rw [sendCommand_trace, List.length_append, syncFrame_length]; omega,
    by rw [sendCommand_trace, frames_append_syncFrame]⟩

/-- Settles O15: the primitive's events are those of `asyncFrame`, and the payload is what is pending. -/
theorem asynchronousFrame : Obligations.AsynchronousFrame := fun opc data s =>
  ⟨sendCommandAsync_sameButLatches opc data s,
    by rw [sendCommandAsync_trace, frames_append_asyncFrame],
    by rintro rfl; exact sendCommandAsync_completionEnabled opc [] s⟩

/-- Settles O16: the three cases of the engine's move. -/
theorem transferEngineSteps : Obligations.TransferEngineSteps :=
  ⟨fun _ _ _ => engineMove_pending,
    fun s hb hp => (engineMove_drained hb hp).trans (completionStep_eq s),
    fun _ => engineMove_notBusy⟩

/-- Settles O17: the two cases of the deselect, of which either primitive leaves the second. -/
theorem environmentDeselect : Obligations.EnvironmentDeselect :=
  ⟨fun _ => deselectMove_handed, fun _ => deselectMove_notHanded,
    fun opc delay data s => deselectMove_notHanded (sendCommand_csHandoff opc delay data s),
    fun opc data s => deselectMove_notHanded (sendCommandAsync_csHandoff opc data s)⟩

end Sys2Proof
end

section
/-! Proofs about the initialisation sequencer: what the whole of `init` leaves, and that a second one
does nothing (spec/41_init_sequencer.md R150, R151). -/

namespace Sys2Proof.Machine

/-- The 37 events of a first `init` (R150): the transport, the backlight, the reset pulse, then the five
frames. -/
def initEvents : List Event :=
  [.spiNew, .spiHz 8000000, .bl true, .rst true, .wait 200, .rst false, .wait 200, .rst true]
    ++ syncFrame Config.opcSwreset 150 [] ++ syncFrame Config.opcColmod 0 [5]
    ++ syncFrame Config.opcMadctl 0 [0] ++ syncFrame Config.opcSlpout 200 []
    ++ syncFrame Config.opcDispon 0 []

/-- The sequence from any state (R150): its events, the transport up, every pin high, the hand-off over,
the last frame's operands in the latches, nothing else changed. -/
theorem initSequence_eq (s : State) :
    initSequence s = { s with
      drvState := .active, spiPresent := true, spiHz := 8000000
      pinCs := .high, pinDc := .high, pinRst := .high, pinBl := .high, csHandoff := false
      trace := s.trace ++ initEvents
      latches := { s.latches with frOpc := Config.opcDispon, frDelay := 0, frData := [] } } := by
  simp only [initSequence, initTransport_eq, initBacklight_eq, initHardwareReset_eq, initFrames_eq,
    sendCommand_eq, setDrvState, initEvents, List.append_assoc, List.cons_append, List.nil_append]

/-- `init` answers a next state in which the block is `Active`, from every state (R150, R151). -/
theorem exec_init_next_active (s : State) : ∃ t, exec .init s = .next t ∧ t.drvState = .active := by
  by_cases h : s.drvState = .active
  · exact ⟨s, exec_init_active s h, h⟩
  · exact ⟨_, exec_init_first s h, rfl⟩

/-- A frame does not move the sequencer (R161). -/
@[simp] theorem sendCommand_drvState (opc : Byte) (delay : Half) (data : List Byte) (s : State) :
    (sendCommand opc delay data s).drvState = s.drvState := by
  rw [sendCommand_eq]

end Sys2Proof.Machine

namespace Sys2Proof

open Machine

/-- Settles O20: outside `Active` the operation is its sequence, known as a whole, between the loading
and the loss of the latches; in `Active` it does nothing; each step either moves the sequencer itself or
only sends a frame, which does not. -/
theorem initBringsUpTheBlock : Obligations.InitBringsUpTheBlock := by
  refine ⟨fun s h => ⟨_, exec_init_first s h, ?_⟩, exec_init_active, fun s =>
    ⟨rfl, rfl, rfl, sendCommand_drvState .., sendCommand_drvState .., sendCommand_drvState ..,
      sendCommand_drvState .., sendCommand_drvState .., setDrvState_drvState ..⟩⟩
  rw [initSequence_eq]
  rfl

/-- Settles O21: whatever state the first call meets, it leaves the block `Active`, where `init` answers
the state itself. -/
theorem initTwiceIsInitOnce : Obligations.InitTwiceIsInitOnce := by
  intro s
  obtain ⟨t, hst, ht⟩ := exec_init_next_active s
  refine ⟨t, hst, exec_init_active t ht, fun hs => ?_⟩
  rw [exec_init_active s hs] at hst
  exact (Host.Outcome.next.inj hst).symm

end Sys2Proof
end

section
/-! Proofs about the window-address controller: the window arithmetic, the Rect check, the two address-set
frames and the admission of an operation with a window (spec/42_window_address.md R170, R171, R174). -/

namespace Sys2Proof.Machine

open Safety

/-! ### Window arithmetic -/

/-- R174: the columns of an ordered Rect, both ends counted, with no wrap-around. -/
theorem winW_add_left {r : Rect} (hx : r.topLeft.x.toNat ≤ r.bottomRight.x.toNat) :
    winW r + r.topLeft.x.toNat = r.bottomRight.x.toNat + 1 := by
  unfold winW
  omega

/-- R174: the rows of an ordered Rect, both ends counted, with no wrap-around. -/
theorem winH_add_top {r : Rect} (hy : r.topLeft.y.toNat ≤ r.bottomRight.y.toNat) :
    winH r + r.topLeft.y.toNat = r.bottomRight.y.toNat + 1 := by
  unfold winH
  omega

theorem winW_pos (r : Rect) : 1 ≤ winW r := Nat.le_add_left 1 _

theorem winH_pos (r : Rect) : 1 ≤ winH r := Nat.le_add_left 1 _

/-- R174: `WinW` needs 9 bits. -/
theorem winW_le (r : Rect) : winW r ≤ 256 := by
  have hlt := r.bottomRight.x.isLt
  unfold winW
  omega

/-- R174: `WinH` needs 9 bits. -/
theorem winH_le (r : Rect) : winH r ≤ 256 := by
  have hlt := r.bottomRight.y.isLt
  unfold winH
  omega

theorem winPixels_pos (r : Rect) : 1 ≤ winPixels r := Nat.mul_pos (winW_pos r) (winH_pos r)

/-- R174: `WinPixels` needs 17 bits. -/
theorem winPixels_le (r : Rect) : winPixels r ≤ 65536 := Nat.mul_le_mul (winW_le r) (winH_le r)

/-- R174: two bytes a pixel. -/
theorem winBytes_eq (r : Rect) : winBytes r = 2 * winPixels r := rfl

/-! ### The Rect check -/

/-- The invariant of R35, as the comparisons it makes. -/
theorem rectOrdered_eq_true_iff (r : Rect) :
    rectOrdered r = true ↔
      r.topLeft.x.toNat ≤ r.bottomRight.x.toNat ∧ r.topLeft.y.toNat ≤ r.bottomRight.y.toNat := by
  simp [rectOrdered]

/-- R215: the invariant fails when one of the two coordinate pairs is out of order. -/
theorem rectOrdered_eq_false_iff (r : Rect) :
    rectOrdered r = false ↔
      r.bottomRight.x.toNat < r.topLeft.x.toNat ∨ r.bottomRight.y.toNat < r.topLeft.y.toNat := by
  rw [← Bool.not_eq_true, rectOrdered_eq_true_iff, not_and_or, Nat.not_le, Nat.not_le]

/-- R216: with the Rect in order, check 4 comes next. -/
theorem acceptWindow_notActive {window : Rect} (run : State → State) {s : State}
    (hw : rectOrdered window = true) (ha : s.drvState ≠ .active) :
    acceptWindow window run s = .fault .notActive := by
  rw [acceptWindow_ordered _ _ _ hw, accept_notActive _ _ ha]

/-- R216: with the Rect in order and the block `Active`, check 5 comes next. -/
theorem acceptWindow_overlap {window : Rect} (run : State → State) {s : State}
    (hw : rectOrdered window = true) (ha : s.drvState = .active) (hb : s.asyncBusy = true) :
    acceptWindow window run s = .fault .asyncOverlap := by
  rw [acceptWindow_ordered _ _ _ hw, accept_overlap _ _ ha hb]

/-! ### The two address-set frames -/

/-- R170: the 18 events, the column frame first (R171). -/
theorem windowEvents_eq (r : Rect) :
    windowEvents r =
      [.cs false, .dc false, .tx Config.opcCaset, .dc true,
       .tx 0, .tx r.topLeft.x, .tx 0, .tx r.bottomRight.x, .cs true,
       .cs false, .dc false, .tx Config.opcRaset, .dc true,
       .tx 0, .tx r.topLeft.y, .tx 0, .tx r.bottomRight.y, .cs true] := by
  simp [windowEvents, syncFrame, coordBytes_eq]

/-- SET_DRAW_WINDOW sends the two address-set frames and nothing else (R171). -/
theorem effect_setDrawWindow (r : Rect) (s : State) :
    effect (.setDrawWindow r) s = afterSync (windowEvents r) s := by
  simp [effect, asyncPayload, syncFrames, syncEvents, windowEvents]

/-- An admitted instruction with well-formed operands completes with its effect. -/
theorem completes_effect {i : Instr} {s : State} (hi : i ≠ .init) (hw : wellFormed i = true)
    (hs : Ready s) : Completes i s (effect i s) := by
  obtain ⟨ha, hb⟩ := hs
  exact ⟨_, exec_ready i s hi hw ha hb, rfl⟩

end Sys2Proof.Machine

namespace Sys2Proof

open Machine

/-- Settles O13: each side is at least 1 and at most 256, so the product of the two is at most
256 × 256; the order of the coordinates makes the subtraction exact. -/
theorem windowArithmeticBounds : Obligations.WindowArithmeticBounds := by
  refine ⟨fun r hx hy => ?_, by decide⟩
  have hpos := winPixels_pos r
  have hle := winPixels_le r
  have hbytes := winBytes_eq r
  exact ⟨winW_add_left hx, winH_add_top hy, rfl, hbytes, winW_pos r, winW_le r, winH_pos r, winH_le r,
    hpos, hle, by omega, by omega⟩

/-- Settles O22: an ordered Rect leaves the outcome to the admission checks, and admitted the operation
has its effect, the two frames; a disordered one is refused before them. -/
theorem setDrawWindowSendsTwoFrames : Obligations.SetDrawWindowSendsTwoFrames := by
  intro r s
  rw [exec_setDrawWindow]
  refine ⟨fun hx hy => ?_, fun hdis => ?_⟩
  · have hw : rectOrdered r = true := (rectOrdered_eq_true_iff r).mpr ⟨hx, hy⟩
    refine ⟨fun hs => ?_, acceptWindow_notActive _ hw, acceptWindow_overlap _ hw⟩
    rw [← windowEvents_eq, ← effect_setDrawWindow]
    exact completes_effect (by simp) hw hs
  · exact acceptWindow_disordered r _ s ((rectOrdered_eq_false_iff r).mpr hdis)

end Sys2Proof
end

section
/-! Proofs about the pixel-stream mux: the events of a RAM write, the transfer run to its end, the
operations that stream pixels (spec/43_pixel_stream.md R180, R183, R186). -/

namespace Sys2Proof.Machine

open Safety

/-! ### The RAM write -/

/-- R130: with no delay a synchronous frame ends at its closing `CS(1)`. -/
theorem syncFrame_zero (opc : Byte) (data : List Byte) :
    syncFrame opc 0 data =
      [.cs false, .dc false, .tx opc, .dc true] ++ data.map .tx ++ [.cs true] := by
  simp [syncFrame]

/-- R180: the mux setting `CONST` puts the colour's high and low byte on the wire once a pixel. -/
theorem map_tx_constPixels (c : Half) :
    (constPixels c).map .tx =
      (List.replicate panelPixels
        [Event.tx (c.extractLsb' 8 8), .tx (c.extractLsb' 0 8)]).flatten := by
  simp [constPixels, rep, colourBytes_eq]

/-- CLEAR_SCREEN sends the full window, then one RAM write of the colour (R180). -/
theorem effect_clearScreen (c : Half) (s : State) :
    effect (.clearScreen c) s =
      afterSync (windowEvents fullRect ++ syncFrame Config.opcRamwr 0 (constPixels c)) s := by
  simp [effect, asyncPayload, syncFrames, syncEvents, windowEvents]

/-- SEND_PIXEL_DATA sends its window, then one RAM write of the buffer (R183). -/
theorem effect_sendPixelData (r : Rect) (data : List Byte) (s : State) :
    effect (.sendPixelData r data) s =
      afterSync (windowEvents r ++ syncFrame Config.opcRamwr 0 data) s := by
  simp [effect, asyncPayload, syncFrames, syncEvents, windowEvents]

/-- SEND_PIXEL_DATA_ASYNC sends its window, then leaves one RAM write open (R186). -/
theorem effect_sendPixelDataAsync (r : Rect) (data : List Byte) (s : State) :
    effect (.sendPixelDataAsync r data) s =
      afterAsync (windowEvents r ++ asyncFrame Config.opcRamwr data) data s := by
  simp [effect, asyncPayload, syncFrames, syncEvents, windowEvents]

/-! ### Admission with a window -/

/-- R216: an instruction whose only operand check is its window's order is refused out of order, and in
order completes with its effect or faults as the state says. -/
theorem outcomes_of_acceptWindow {i : Instr} {r : Rect} {run : State → State} {s : State}
    (hexec : exec i s = acceptWindow r run s) (hi : i ≠ .init)
    (hwf : wellFormed i = rectOrdered r) :
    (r.topLeft.x.toNat ≤ r.bottomRight.x.toNat → r.topLeft.y.toNat ≤ r.bottomRight.y.toNat →
        (Ready s → Completes i s (effect i s))
          ∧ (s.drvState ≠ .active → exec i s = .fault .notActive)
          ∧ (s.drvState = .active → s.asyncBusy = true → exec i s = .fault .asyncOverlap))
      ∧ (r.bottomRight.x.toNat < r.topLeft.x.toNat ∨ r.bottomRight.y.toNat < r.topLeft.y.toNat →
          exec i s = .refused .badRect) := by
  refine ⟨fun hx hy => ?_, fun hdis => ?_⟩
  · have hw : rectOrdered r = true := (rectOrdered_eq_true_iff r).mpr ⟨hx, hy⟩
    exact ⟨completes_effect hi (hwf.trans hw),
      fun ha => hexec.trans (acceptWindow_notActive run hw ha),
      fun ha hb => hexec.trans (acceptWindow_overlap run hw ha hb)⟩
  · exact hexec.trans (acceptWindow_disordered r run s ((rectOrdered_eq_false_iff r).mpr hdis))

/-! ### The transfer run to its end -/

/-- R136, R138: one engine move a pending byte and one more end the transfer with one `ADONE`. -/
theorem engineMove_iterate_drains (data : List Byte) (u : State) (hb : u.asyncBusy = true)
    (hp : u.asyncPending = data) :
    engineMove^[data.length + 1] u =
      { u with trace := u.trace ++ [.adone], asyncBusy := false, asyncPending := []
               csHandoff := true } := by
  induction data generalizing u with
  | nil =>
    have hdone : engineMove u = completionStep u := engineMove_drained hb hp
    rw [List.length_nil, Function.iterate_one, hdone, completionStep_eq, ← hp]
  | cons b rest ih =>
    have hbyte : engineMove u = { u with asyncPending := rest } := engineMove_pending hb hp
    rw [List.length_cons, Function.iterate_succ_apply, hbyte,
      ih { u with asyncPending := rest } hb rfl]

end Sys2Proof.Machine

namespace Sys2Proof

open Machine

/-- Settles O23: admitted, the operation has its effect, the window events of the full panel and the RAM
write of the constant pixels, whose events are the colour's two bytes over and over; else the admission
checks answer. -/
theorem clearScreenFillsThePanel : Obligations.ClearScreenFillsThePanel := by
  refine ⟨rfl, fun c s => ⟨fun hs => ?_, fun ha => ?_, fun ha hb => ?_⟩⟩
  · have h := completes_effect (i := .clearScreen c) (by simp) rfl hs
    rw [effect_clearScreen, windowEvents_eq, syncFrame_zero, map_tx_constPixels] at h
    exact h
  · rw [exec_clearScreen, accept_notActive _ _ ha]
  · rw [exec_clearScreen, accept_overlap _ _ ha hb]

/-- Settles O24: the outcomes of an operation with a window, its effect being the window events and the
RAM write of the buffer. -/
theorem sendPixelDataStreamsTheBuffer : Obligations.SendPixelDataStreamsTheBuffer := by
  intro r data s
  have h := outcomes_of_acceptWindow (exec_sendPixelData r data s) (by simp) rfl
  rw [effect_sendPixelData, windowEvents_eq, syncFrame_zero] at h
  exact h

/-- Settles O25: the transfer runs to its end by induction on the pending bytes, and what it leaves is
handed over, so the environment may deselect; the outcomes are those of an operation with a window, its
effect being the window events and the RAM write left open. -/
theorem sendPixelDataAsyncLeavesTheFrameOpen : Obligations.SendPixelDataAsyncLeavesTheFrameOpen := by
  refine ⟨fun data u hb hp => ?_, fun r data s => ?_⟩
  · have hdrained := engineMove_iterate_drains data u hb hp
    refine ⟨hdrained, ?_⟩
    rw [hdrained, deselectMove_handed rfl, List.append_assoc, List.singleton_append]
  · have h := outcomes_of_acceptWindow (exec_sendPixelDataAsync r data s) (by simp) rfl
    rw [effect_sendPixelDataAsync, windowEvents_eq] at h
    exact h

end Sys2Proof
end

section
/-! Proofs about display control: the outcomes of an operation without an operand check, the frame that
the display and sleep operations send, the rate (spec/44_display_control.md R200, R202, R204). -/

namespace Sys2Proof.Machine

open Safety

/-! ### Admission without an operand check -/

/-- R216: an instruction with no operand check completes with its effect or faults as the state says. -/
theorem outcomes_of_accept {i : Instr} {run : State → State} {s : State}
    (hexec : exec i s = accept run s) (hi : i ≠ .init) (hw : wellFormed i = true) :
    (Ready s → Completes i s (effect i s))
      ∧ (s.drvState ≠ .active → exec i s = .fault .notActive)
      ∧ (s.drvState = .active → s.asyncBusy = true → exec i s = .fault .asyncOverlap) :=
  ⟨completes_effect hi hw,
    fun ha => hexec.trans (accept_notActive run s ha),
    fun ha hb => hexec.trans (accept_overlap run s ha hb)⟩

/-! ### The effects -/

/-- SET_DISPLAY_ENABLED sends one frame, which ends at its closing `CS(1)` (R200). -/
theorem effect_setDisplayEnabled (flag : Bool) (s : State) :
    effect (.setDisplayEnabled flag) s = afterSync
      [.cs false, .dc false, .tx (if flag then Config.opcDispon else Config.opcDispoff), .dc true,
       .cs true] s := by
  simp [effect, asyncPayload, syncFrames, syncEvents, syncFrame]

/-- SET_SLEEP sends one frame and waits after it, as long for sleep-out as for sleep-in (R202, D12). -/
theorem effect_setSleep (flag : Bool) (s : State) :
    effect (.setSleep flag) s = afterSync
      [.cs false, .dc false, .tx (if flag then Config.opcSlpin else Config.opcSlpout), .dc true,
       .cs true, .wait 200] s := by
  cases flag <;> rfl

end Sys2Proof.Machine

namespace Sys2Proof

open Machine

/-- Settles O26: the outcomes of an operation without an operand check, its effect being the frame of the
opcode the flag selects. -/
theorem setDisplayEnabledSendsOneFrame : Obligations.SetDisplayEnabledSendsOneFrame := by
  intro flag s
  have h := outcomes_of_accept (exec_setDisplayEnabled flag s) (by simp) rfl
  rw [effect_setDisplayEnabled] at h
  exact h

/-- Settles O27: the outcomes of an operation without an operand check, its effect being the frame of the
opcode the flag selects and the wait. -/
theorem setSleepSendsOneFrameAndWaits : Obligations.SetSleepSendsOneFrameAndWaits := by
  intro flag s
  have h := outcomes_of_accept (exec_setSleep flag s) (by simp) rfl
  rw [effect_setSleep] at h
  exact h

/-- Settles O28: the outcomes of an operation without an operand check, its effect being the one event
and the rate, by definition. -/
theorem setUpdateRateSetsTheRate : Obligations.SetUpdateRateSetsTheRate := fun hz s =>
  outcomes_of_accept (exec_setUpdateRate hz s) (by simp) rfl

end Sys2Proof
end

section
/-! Proofs about the violations: the two faults of the admission checks, the bytes an admitted buffer
operation puts on the wire (spec/60_exceptions.md R211, R212, R213, R216). -/

namespace Sys2Proof.Machine

open Safety

/-! ### The admission checks of every instruction but `init` -/

/-- R216: past the operand checks, an instruction other than `init` is admitted or faults as `accept`
says. -/
theorem exec_eq_accept {i : Instr} (hi : i ≠ .init) (hw : wellFormed i = true) :
    ∃ run, ∀ s, exec i s = accept run s := by
  cases i with
  | init => exact absurd rfl hi
  | sendPixelData r data | sendPixelDataAsync r data | setDrawWindow r =>
    exact ⟨_, fun s => acceptWindow_ordered r _ s hw⟩
  | madctl cfg delay =>
    have hc : mdacLegal cfg = true := hw
    exact ⟨_, fun s => by rw [exec_madctl, if_pos hc]⟩
  | colmod cfg delay =>
    have hc : colourModeLegal cfg = true := hw
    exact ⟨_, fun s => by rw [exec_colmod, if_pos hc]⟩
  | _ => exact ⟨_, fun _ => rfl⟩

/-- R211, for every instruction but `init`. -/
theorem exec_notActive {i : Instr} {s : State} (hi : i ≠ .init) (hw : wellFormed i = true)
    (ha : s.drvState ≠ .active) : exec i s = .fault .notActive := by
  obtain ⟨run, hrun⟩ := exec_eq_accept hi hw
  rw [hrun, accept_notActive run s ha]

/-- R212, for every instruction but `init`. -/
theorem exec_overlap {i : Instr} {s : State} (hi : i ≠ .init) (hw : wellFormed i = true)
    (ha : s.drvState = .active) (hb : s.asyncBusy = true) : exec i s = .fault .asyncOverlap := by
  obtain ⟨run, hrun⟩ := exec_eq_accept hi hw
  rw [hrun, accept_overlap run s ha hb]

/-- R138, R212: the step that ends a transfer leaves an `Active` block ready, the deselect still to
come. -/
theorem engineMove_drained_ready {s : State} (ha : s.drvState = .active) (hb : s.asyncBusy = true)
    (hp : s.asyncPending = []) : (engineMove s).csHandoff = true ∧ Ready (engineMove s) := by
  rw [engineMove_drained hb hp, completionStep_eq]
  exact ⟨rfl, ha, rfl⟩

/-! ### The bytes on the wire -/

/-- R213: the condition compares the length with `WinBytes`. -/
theorem lengthMismatch_eq_true_iff (r : Rect) (data : List Byte) :
    lengthMismatch r data = true ↔ data.length ≠ winBytes r := by
  simp [lengthMismatch]

/-- R170: the ten bytes of the two address-set frames. -/
theorem wire_windowEvents (r : Rect) :
    wire (windowEvents r) =
      [Config.opcCaset, 0, r.topLeft.x, 0, r.bottomRight.x,
       Config.opcRaset, 0, r.topLeft.y, 0, r.bottomRight.y] := by
  simp [windowEvents, wire_append, wire_syncFrame, coordBytes_eq]

/-- An admitted instruction with well-formed operands puts on the wire the bytes of its effect. -/
theorem exec_ready_wire {i : Instr} {s : State} (hi : i ≠ .init) (hw : wellFormed i = true)
    (hs : Ready s) : ∃ t, exec i s = .next t ∧ wire t.trace = wire (effect i s).trace :=
  ⟨_, exec_ready i s hi hw hs.1 hs.2, rfl⟩

/-- R183: the window frames, then the RAM write of the buffer, whatever its length. -/
theorem wire_effect_sendPixelData (r : Rect) (data : List Byte) (s : State) :
    wire (effect (.sendPixelData r data) s).trace =
      wire s.trace ++ (wire (windowEvents r) ++ Config.opcRamwr :: data) := by
  rw [effect_sendPixelData, afterSync, wire_append, wire_append, wire_syncFrame]

/-- R186: the window frames, then the RAM write of the buffer, whatever its length. -/
theorem wire_effect_sendPixelDataAsync (r : Rect) (data : List Byte) (s : State) :
    wire (effect (.sendPixelDataAsync r data) s).trace =
      wire s.trace ++ (wire (windowEvents r) ++ Config.opcRamwr :: data) := by
  rw [effect_sendPixelDataAsync, afterAsync, wire_append, wire_append, wire_asyncFrame]

end Sys2Proof.Machine

namespace Sys2Proof

open Machine

/-- Settles O33: the operations are instructions other than `init`, and in order their Rects are
well-formed operands, so the overlap check answers; the completion step leaves the block ready, so the
next operation is admitted before any deselect. -/
theorem overlapWindowClosesAtCompletion : Obligations.OverlapWindowClosesAtCompletion := by
  refine ⟨fun s ha hb => ?_, rfl, fun s ha hb hp => ?_⟩
  · have hover {i : Instr} (hi : i ≠ .init) (hw : wellFormed i = true) :
        exec i s = .fault .asyncOverlap := exec_overlap hi hw ha hb
    exact ⟨fun _ => hover nofun rfl,
      fun _ _ hw => ⟨hover nofun hw, hover nofun hw, hover nofun hw⟩,
      fun _ => ⟨hover nofun rfl, hover nofun rfl⟩, fun _ => hover nofun rfl, exec_init_active s ha⟩
  · obtain ⟨hcs, ha', hb'⟩ := engineMove_drained_ready ha hb hp
    exact ⟨hcs, fun hz => ⟨_, exec_ready (.setUpdateRate hz) _ nofun rfl ha' hb'⟩⟩

/-- Settles O34: the operations are instructions other than `init`, and in order their Rects are
well-formed operands, so the check for `Active` answers; `init` answers a next state from every state. -/
theorem operationsNeedActive : Obligations.OperationsNeedActive := by
  refine ⟨fun s ha => ?_, rfl⟩
  have hfault {i : Instr} (hi : i ≠ .init) (hw : wellFormed i = true) :
      exec i s = .fault .notActive := exec_notActive hi hw ha
  exact ⟨fun _ => hfault nofun rfl,
    fun _ _ hw => ⟨hfault nofun hw, hfault nofun hw, hfault nofun hw⟩,
    fun _ => ⟨hfault nofun rfl, hfault nofun rfl⟩, fun _ => hfault nofun rfl,
    _, exec_init_first s ha⟩

/-- Settles O36: admitted, each buffer operation puts the bytes of its effect on the wire, which are the
window frames, the opcode and the buffer for every length, mismatched or not. -/
theorem lengthMismatchIsNoFault : Obligations.LengthMismatchIsNoFault := by
  refine ⟨rfl, fun r data s => ⟨lengthMismatch_eq_true_iff r data, ⟨rfl, rfl⟩, fun hw hs _ => ?_⟩⟩
  have hsync := exec_ready_wire (i := .sendPixelData r data) nofun hw hs
  have hasync := exec_ready_wire (i := .sendPixelDataAsync r data) nofun hw hs
  rw [wire_effect_sendPixelData, wire_windowEvents] at hsync
  rw [wire_effect_sendPixelDataAsync, wire_windowEvents] at hasync
  rw [List.append_assoc]
  exact ⟨hsync, hasync⟩

end Sys2Proof
end

section
/-! Proofs about the hazards: the rate-change rule (spec/70_reset_and_hazards.md R256). -/

namespace Sys2Proof.Machine

/-! ### The rate in force -/

/-- Only an `SPI_HZ` changes the rate. -/
theorem rateAfter_singleton {e : Event} (he : ∀ g, e ≠ .spiHz g) (f : Option Hertz) :
    rateAfter f [e] = f := by
  cases e with
  | spiHz g => exact absurd rfl (he g)
  | _ => rfl

/-- While no rate is set, every wire byte is clocked at the rate in force before it (R79). -/
theorem clocked_eq_map_wire (f : Option Hertz) {tr : List Event} (h : ∀ g, Event.spiHz g ∉ tr) :
    clocked f tr = (wire tr).map fun b => (b, f) := by
  induction tr with
  | nil => rfl
  | cons e rest ih =>
    have he : ∀ g, e ≠ .spiHz g := fun g heq => h g (heq ▸ List.mem_cons_self)
    have hrest : ∀ g, Event.spiHz g ∉ rest := fun g hg => h g (List.mem_cons_of_mem e hg)
    rw [clocked, rateAfter_singleton he, ih hrest, ← List.map_append]
    rfl

/-- R204: a SET_UPDATE_RATE that completes appends its one `SPI_HZ` to the trace. -/
theorem exec_setUpdateRate_trace {hz : Hertz} {s t : State}
    (h : exec (.setUpdateRate hz) s = .next t) : t.trace = s.trace ++ [.spiHz hz] := by
  obtain ⟨-, ha, hb⟩ := exec_next_admitted (i := .setUpdateRate hz) nofun h
  rw [exec_ready (.setUpdateRate hz) s nofun rfl ha hb] at h
  cases h
  rfl

end Sys2Proof.Machine

namespace Sys2Proof

open Machine

/-- Settles O55: the trace before the `SPI_HZ` is clocked as it was, the `SPI_HZ` itself carries no byte,
and the rate it sets is in force for all that follows, since nothing after it sets another. -/
theorem newRateHoldsFromTheNextByte : Obligations.NewRateHoldsFromTheNextByte := by
  intro hz s t f later hexec hlater
  have hrate : rateAfter f (s.trace ++ [.spiHz hz]) = some hz := by rw [rateAfter_append]; rfl
  have hbefore : clocked f (s.trace ++ [.spiHz hz]) = clocked f s.trace := by
    rw [clocked_append]; exact List.append_nil _
  rw [exec_setUpdateRate_trace hexec, clocked_append, hbefore, hrate, clocked_eq_map_wire _ hlater]

end Sys2Proof
end

section
/-! Proofs about decoding and encoding: the two are inverse on the instructions and on the frames that
decode, and the layout of the memory-access-control byte (spec/30_encoding.md R90 to R93, R105, R112). -/

namespace Sys2Proof

open Machine

/-! ### The parameter bytes of a frame -/

/-- Format `W0` reads no parameter byte (R91). -/
theorem decodeW0_eq_ok_iff {build : Half → Instr} {data : List Byte} {variant : Variant} {i : Instr} :
    decodeW0 build data variant = .ok i ↔
      ∃ delay, variant = .sync delay ∧ data = [] ∧ i = build delay := by
  cases variant with
  | async => simp [decodeW0]
  | sync delay => cases data <;> simp [decodeW0, eq_comm]

/-- Format `W1` reads one parameter byte (R91). -/
theorem decodeW1_eq_ok_iff {build : Byte → Half → Instr} {data : List Byte} {variant : Variant}
    {i : Instr} :
    decodeW1 build data variant = .ok i ↔
      ∃ cfg delay, variant = .sync delay ∧ data = [cfg] ∧ i = build cfg delay := by
  cases variant with
  | async => simp [decodeW1]
  | sync delay =>
    match data with
    | [] => simp [decodeW1]
    | [cfg] => simp [decodeW1, eq_comm]
    | _ :: _ :: _ => simp [decodeW1]

/-- Format `W4` reads `00 start 00 end` (R91, R110). -/
theorem decodeW4_eq_ok_iff {build : Byte → Byte → Half → Instr} {data : List Byte} {variant : Variant}
    {i : Instr} :
    decodeW4 build data variant = .ok i ↔
      ∃ first last delay, variant = .sync delay ∧ data = coordBytes first last
        ∧ i = build first last delay := by
  simp only [coordBytes_eq]
  cases variant with
  | async => simp [decodeW4]
  | sync delay =>
    match data with
    | [] | [_] | [_, _] | [_, _, _] | _ :: _ :: _ :: _ :: _ :: _ => simp [decodeW4]
    | [startHigh, first, endHigh, last] =>
      by_cases hhigh : startHigh = 0 ∧ endHigh = 0
      · obtain ⟨rfl, rfl⟩ := hhigh
        simp [decodeW4, eq_comm]
      · simp only [decodeW4, if_neg hhigh, reduceCtorEq, false_iff]
        rintro ⟨_, _, _, -, hdata, -⟩
        simp_all

/-! ### The two inverses -/

/-- An address-set frame is read by its opcode's format, the two high bytes being 0 (R65, R110). -/
theorem decodeW4_coordBytes (build : Byte → Byte → Half → Instr) (first last : Byte) (delay : Half) :
    decodeW4 build (coordBytes first last) (.sync delay) = .ok (build first last delay) :=
  decodeW4_eq_ok_iff.mpr ⟨first, last, delay, rfl, rfl, rfl⟩

/-- The packet of an instruction decodes to it (R91, R93, R112). -/
theorem decode_encode (i : Instr) : decode (encode i) = .ok i := by
  cases i with
  | caset x0 x1 delay => exact decodeW4_coordBytes .caset x0 x1 delay
  | raset y0 y1 delay => exact decodeW4_coordBytes .raset y0 y1 delay
  | _ => rfl

/-- A frame that decodes is the packet of what it decodes to: its opcode names the command, and the
format leaves no part of the frame unread (R91, R93). -/
theorem encode_of_decodeFrame {f : Frame} {i : Instr} (h : decodeFrame f = .ok i) :
    encode i = .frame f := by
  obtain ⟨opc, data, variant⟩ := f
  simp only [decodeFrame] at h
  split_ifs at h with hopc hopc hopc hopc hopc hopc hopc hopc hopc hopc <;> subst hopc
  case pos | pos | pos | pos | pos =>
    obtain ⟨delay, rfl, rfl, rfl⟩ := decodeW0_eq_ok_iff.mp h
    rfl
  case pos | pos =>
    obtain ⟨first, last, delay, rfl, rfl, rfl⟩ := decodeW4_eq_ok_iff.mp h
    rfl
  case pos =>
    obtain rfl := Except.ok.inj h
    rfl
  case pos | pos =>
    obtain ⟨cfg, delay, rfl, rfl, rfl⟩ := decodeW1_eq_ok_iff.mp h
    rfl

/-! ### The memory-access-control byte -/

/-- The packed configuration as a number: each field at its place (R105, D5). -/
theorem packMdac_toNat (m : MdacConfig) :
    (packMdac m).toNat = m.addressMode.toNat * 32 + (verticalCode m.verticalRefresh).toNat * 16
      + (formatCode m.colourFormat).toNat * 8 + (horizontalCode m.horizontalRefresh).toNat * 4
      + m.reserved.toNat := by
  rw [packMdac, toNat_append_add, toNat_append_add, toNat_append_add, toNat_append_add]
  omega

/-- The fields of a byte as numbers (R105, D5). -/
theorem unpackMdac_toNat (b : Byte) :
    (unpackMdac b).addressMode.toNat = b.toNat / 32
      ∧ (verticalCode (unpackMdac b).verticalRefresh).toNat = b.toNat / 16 % 2
      ∧ (formatCode (unpackMdac b).colourFormat).toNat = b.toNat / 8 % 2
      ∧ (horizontalCode (unpackMdac b).horizontalRefresh).toNat = b.toNat / 4 % 2
      ∧ (unpackMdac b).reserved.toNat = b.toNat % 4 := by
  have hb := b.isLt
  have hbit (k : Nat) : (b.getLsbD k).toNat = b.toNat / 2 ^ k % 2 := by
    rw [BitVec.getLsbD, Nat.toNat_testBit]
  have h4 := hbit 4
  have h3 := hbit 3
  have h2 := hbit 2
  refine ⟨?_, ?_, ?_, ?_, ?_⟩
  · simp [unpackMdac, BitVec.extractLsb'_toNat, Nat.shiftRight_eq_div_pow]
    omega
  · cases h : b.getLsbD 4 <;> simp_all [unpackMdac, verticalCode]
  · cases h : b.getLsbD 3 <;> simp_all [unpackMdac, formatCode]
  · cases h : b.getLsbD 2 <;> simp_all [unpackMdac, horizontalCode]
  · simp [unpackMdac, BitVec.extractLsb'_toNat]

/-- The fields of a byte are packed back to it (R105). -/
theorem packMdac_unpackMdac (b : Byte) : packMdac (unpackMdac b) = b := by
  apply BitVec.eq_of_toNat_eq
  have hb := b.isLt
  obtain ⟨ham, hv, hf, hh, hr⟩ := unpackMdac_toNat b
  rw [packMdac_toNat, ham, hv, hf, hh, hr]
  omega

theorem verticalCode_injective : Function.Injective verticalCode := by
  intro a b h
  cases a <;> cases b <;> simp_all [verticalCode]

theorem formatCode_injective : Function.Injective formatCode := by
  intro a b h
  cases a <;> cases b <;> simp_all [formatCode]

theorem horizontalCode_injective : Function.Injective horizontalCode := by
  intro a b h
  cases a <;> cases b <;> simp_all [horizontalCode]

/-- No two configurations have one byte: the fields do not overlap (R105). -/
theorem packMdac_injective : Function.Injective packMdac := by
  intro m n h
  have hm := packMdac_toNat m
  have hn := packMdac_toNat n
  rw [h] at hm
  obtain ⟨am, v, f, hz, r⟩ := m
  obtain ⟨am', v', f', hz', r'⟩ := n
  dsimp only at hm hn
  obtain rfl : am = am' := BitVec.eq_of_toNat_eq (by omega)
  obtain rfl : v = v' := verticalCode_injective (BitVec.eq_of_toNat_eq (by omega))
  obtain rfl : f = f' := formatCode_injective (BitVec.eq_of_toNat_eq (by omega))
  obtain rfl : hz = hz' := horizontalCode_injective (BitVec.eq_of_toNat_eq (by omega))
  obtain rfl : r = r' := BitVec.eq_of_toNat_eq (by omega)
  rfl

/-- The fields packed are unpacked again (R105). -/
theorem unpackMdac_packMdac (m : MdacConfig) : unpackMdac (packMdac m) = m :=
  packMdac_injective (packMdac_unpackMdac (packMdac m))

/-! ### The obligations -/

/-- Settles O8: every packet is read by the branch of its own select or opcode; an address-set frame
also passes its two high bytes. -/
theorem decodeInvertsEncode : Obligations.DecodeInvertsEncode := decode_encode

/-- Settles O9: the opcode names the command, and each format determines the bytes it reads. -/
theorem encodeInvertsFrameDecode : Obligations.EncodeInvertsFrameDecode :=
  fun _ _ h => encode_of_decodeFrame h

/-- Settles O12: the packed number is a sum of fields that do not overlap, so packing is injective, and
the fields of a byte sum to it. -/
theorem mdacByteLayout : Obligations.MdacByteLayout := by
  refine ⟨fun m hm => ?_, unpackMdac_packMdac, packMdac_unpackMdac, rfl, rfl⟩
  rw [packMdac_toNat, hm]
  rfl

/-- Settles O2: each word is decoded by evaluation. -/
theorem handWrittenWordsDecode : Obligations.HandWrittenWordsDecode := by
  unfold Obligations.HandWrittenWordsDecode
  decide

end Sys2Proof
end

section
/-! Proofs about every step: what a predicate on states must survive to survive every step, once for
all the invariants (spec/00_scope.md R11, spec/60_exceptions.md R216). -/

namespace Sys2Proof.Machine

open Safety

/-! ### An effect frame by frame -/

theorem afterSync_append (a b : List Event) (s : State) :
    afterSync (a ++ b) s = afterSync b (afterSync a s) := by
  simp [afterSync]

theorem afterAsync_append (a b : List Event) (payload : List Byte) (s : State) :
    afterAsync (a ++ b) payload s = afterAsync b payload (afterSync a s) := by
  simp [afterAsync, afterSync]

theorem syncEvents_cons (f : Byte × Half × List Byte) (fs : List (Byte × Half × List Byte)) :
    syncEvents (f :: fs) = syncFrame f.1 f.2.1 f.2.2 ++ syncEvents fs := rfl

/-- A frame the block may send: one of the ten opcodes, and of the colour modes the 16-bit one only
(R45, R93). -/
def Sendable (opc : Byte) (data : List Byte) : Prop :=
  opc ∈ Config.opcodes ∧ (opc = Config.opcColmod → data = [Config.colmode16])

/-- The colour mode a well-formed instruction sends, if it sends one, is the 16-bit one (R45, R122). -/
theorem syncFrames_colmod {i : Instr} (hw : wellFormed i = true) :
    ∀ f ∈ syncFrames i, f.1 = Config.opcColmod → f.2.2 = [Config.colmode16] := by
  cases i with
  | colmod cfg delay =>
    have hcfg : cfg = Config.colmode16 := by
      simpa [wellFormed, colourModeLegal, colourModeByte] using hw
    simp [syncFrames, hcfg]
  | setDisplayEnabled flag | setSleep flag =>
    cases flag <;> simp [syncFrames, Config.opcDispon, Config.opcDispoff, Config.opcSlpin,
      Config.opcSlpout, Config.opcColmod]
  | ramwr data variant =>
    cases variant <;> simp [syncFrames, Config.opcRamwr, Config.opcColmod]
  | _ =>
    simp [syncFrames, Config.opcCaset, Config.opcRaset, Config.opcRamwr, Config.opcSwreset,
      Config.opcSlpin, Config.opcSlpout, Config.opcDispoff, Config.opcDispon, Config.opcMadctl,
      Config.opcColmod]

/-- A well-formed instruction sends such frames only. -/
theorem syncFrames_sendable {i : Instr} (hw : wellFormed i = true) :
    ∀ f ∈ syncFrames i, Sendable f.1 f.2.2 :=
  fun f hf => ⟨syncFrames_opcodes i f hf, syncFrames_colmod hw f hf⟩

/-- The state a first `init` leaves, up to the dead latches and the counter (R150). -/
def afterInit (s : State) : State :=
  { s with
    drvState := .active, spiPresent := true, spiHz := 8000000
    pinCs := .high, pinDc := .high, pinRst := .high, pinBl := .high, csHandoff := false
    trace := s.trace ++ initEvents }

/-- An `init` outside `Active` completes in that state. -/
theorem exec_init_first_afterInit (s : State) (h : s.drvState ≠ .active) :
    exec .init s = .next { afterInit s with
      latches := Config.deadLatches s.retired, retired := s.retired + 1 } := by
  rw [exec_init_first s h, initSequence_eq]
  rfl

/-! ### What a step can change -/

/-- What a predicate survives when it survives every step: a change of the fields that only the model
keeps, and each thing an agent can do, of an admitted instruction frame by frame. -/
structure KeptByMoves (P : State → Prop) : Prop where
  /-- The script, the dead latches and the counter of returns are not read. -/
  bookkeeping : ∀ s script latches retired, P s →
    P { s with script := script, latches := latches, retired := retired }
  /-- R136. -/
  byteStep : ∀ s, s.asyncBusy = true → s.asyncPending ≠ [] → P s →
    P { s with asyncPending := s.asyncPending.tail }
  /-- R138. -/
  completionStep : ∀ s, s.asyncBusy = true → s.asyncPending = [] → P s →
    P { s with trace := s.trace ++ [.adone], asyncBusy := false, csHandoff := true }
  /-- R139. -/
  deselect : ∀ s, s.csHandoff = true → P s →
    P { s with trace := s.trace ++ [.envCs], pinCs := .high, csHandoff := false }
  /-- R150. -/
  init : ∀ s, s.drvState ≠ .active → P s → P (afterInit s)
  /-- R204. -/
  setRate : ∀ s hz, Ready s → P s → P { s with trace := s.trace ++ [.spiHz hz], spiHz := hz }
  /-- R130. -/
  syncFrame : ∀ s opc delay data, Ready s → Sendable opc data → P s →
    P (afterSync (syncFrame opc delay data) s)
  /-- R134. -/
  asyncFrame : ∀ s data, Ready s → P s → P (afterAsync (asyncFrame Config.opcRamwr data) data s)

/-- One synchronous frame after another keeps it. -/
theorem KeptByMoves.syncEvents {P : State → Prop} (hP : KeptByMoves P)
    {fs : List (Byte × Half × List Byte)} (hne : fs ≠ [])
    (hfs : ∀ f ∈ fs, Sendable f.1 f.2.2) {s : State} (hs : Ready s) (h : P s) :
    P (afterSync (syncEvents fs) s) := by
  induction fs generalizing s with
  | nil => exact absurd rfl hne
  | cons f rest ih =>
    obtain ⟨hf, hrest⟩ := List.forall_mem_cons.mp hfs
    have hfirst := hP.syncFrame s f.1 f.2.1 f.2.2 hs hf h
    rw [syncEvents_cons]
    by_cases hr : rest = []
    · simpa [hr, Machine.syncEvents] using hfirst
    · rw [afterSync_append]
      exact ih hr hrest hs hfirst

/-- The effect of an admitted instruction keeps it. -/
theorem KeptByMoves.effect {P : State → Prop} (hP : KeptByMoves P) {i : Instr} {s : State}
    (hi : i ≠ .init) (hw : wellFormed i = true) (hs : Ready s) (h : P s) : P (effect i s) := by
  have hfs := syncFrames_sendable hw
  obtain ⟨hz, -, heq⟩ | ⟨data, -, heq⟩ | ⟨-, hne, heq⟩ := effect_cases i hi s <;> rw [heq]
  · exact hP.setRate s hz hs h
  · by_cases hne : syncFrames i = []
    · simpa [hne, Machine.syncEvents] using hP.asyncFrame s data hs h
    · rw [afterAsync_append]
      exact hP.asyncFrame _ data hs (hP.syncEvents hne hfs hs h)
  · exact hP.syncEvents hne hfs hs h

/-- An instruction that answers a next state keeps it. -/
theorem KeptByMoves.exec {P : State → Prop} (hP : KeptByMoves P) {i : Instr} {s t : State}
    (h : P s) (hst : exec i s = .next t) : P t := by
  obtain ⟨-, -, rfl⟩ | ⟨rfl, ha, -⟩ | ⟨hi, hw, ha, hb, rfl⟩ := exec_next_cases hst
  · exact h
  · rw [exec_init_first_afterInit s ha] at hst
    obtain rfl := Host.Outcome.next.inj hst
    exact hP.bookkeeping _ s.script _ _ (hP.init s ha h)
  · exact hP.bookkeeping _ (Machine.effect i s).script _ _ (hP.effect hi hw ⟨ha, hb⟩ h)

/-- Every step that answers a next state keeps it. -/
theorem KeptByMoves.step {P : State → Prop} (hP : KeptByMoves P) {s t : State} (h : P s)
    (hst : step s = .next t) : P t := by
  have htaken (rest : List Move) : P { s with script := rest } :=
    hP.bookkeeping s rest s.latches s.retired h
  obtain ⟨-, ⟨_, rest, i, -, -, hexec⟩ | ⟨rest, rfl⟩ | ⟨rest, -, rfl⟩⟩ := step_next_cases hst
  · exact hP.exec (htaken rest) hexec
  · obtain ⟨hb, hp, heq⟩ | ⟨hb, hp, heq⟩ | ⟨-, heq⟩ := engineMove_cases { s with script := rest } <;>
      rw [heq]
    · exact hP.byteStep _ hb hp (htaken rest)
    · exact hP.completionStep _ hb hp (htaken rest)
    · exact htaken rest
  · obtain ⟨hcs, heq⟩ | ⟨-, heq⟩ := deselectMove_cases { s with script := rest } <;> rw [heq]
    · exact hP.deselect _ hcs (htaken rest)
    · exact htaken rest

end Sys2Proof.Machine
end

section
/-! Proofs about the invariants that every step keeps: the state between operations, the framing
discipline, the transfers, the peer's colour mode, the transport and its rate (spec/10_state.md R23,
R24, R45, R52; spec/40_framer.md R138, R141). -/

namespace Sys2Proof.Machine

open Safety

/-! ### The events of `init` -/

/-- After `init` no frame is open: its last frame is synchronous. -/
theorem openAfter_initEvents (b : Bool) : initEvents.foldl openAfter b = false := by
  simp only [initEvents, List.foldl_append, openAfter_syncFrame]

/-- From reset on, `init` keeps the framing discipline. -/
theorem lineFrom_initEvents : lineFrom .idle initEvents = some .closed := by decide

theorem started_initEvents : started initEvents = 0 := by decide

theorem completed_initEvents : completed initEvents = 0 := by decide

/-- `init` constructs the transport once (R152). -/
theorem count_spiNew_initEvents : initEvents.count .spiNew = 1 := by decide

/-- The rate `init` leaves is its default, whatever it was (R152). -/
theorem rateAfter_initEvents (f : Option Hertz) : rateAfter f initEvents = some 8000000 := by
  simp only [initEvents, rateAfter_append, rateAfter_syncFrame, rateAfter]

/-! ### R52 -/

/-- The invariants of an `Active` block, without the clauses that speak of another state. -/
theorem inv_of_active {s : State} (ha : s.drvState = .active) (hspi : s.spiPresent = true)
    (hrst : s.pinRst = .high) (hbl : s.pinBl = .high) (hdc : s.pinDc = .high)
    (hcs : s.pinCs = levelOf (!lastFrameOpen s.trace)) (hbusy : s.asyncBusy = true → s.pinCs = .low)
    (hhand : s.csHandoff = true → s.asyncBusy = false ∧ s.pinCs = .low)
    (hpend : s.asyncPending ≠ [] → s.asyncBusy = true) : Inv s where
  activeDriven _ := ⟨hspi, hrst, hbl, by rw [hcs]; cases lastFrameOpen s.trace <;> simp, by simp [hdc]⟩
  uninitializedSilent hu := by simp [ha] at hu
  noMiddleState := .inr ha
  activeDataLevel _ := hdc
  activeSelect _ := hcs
  busyOpen hb := ⟨hbusy hb, hdc⟩
  handoffOpen := hhand
  pendingBusy := hpend

/-- A selected chip is an `Active` block's. -/
theorem inv_active_of_low {s : State} (h : Inv s) (hcs : s.pinCs = .low) : s.drvState = .active := by
  refine h.noMiddleState.resolve_left fun hu => ?_
  obtain ⟨-, hcs', -⟩ := h.uninitializedSilent hu
  simp [hcs] at hcs'

/-- Outside `Active` the block is silent since reset: no event, nothing in flight. -/
theorem inv_silent {s : State} (h : Inv s) (ha : s.drvState ≠ .active) :
    s.drvState = .uninitialized ∧ s.trace = [] ∧ s.asyncBusy = false ∧ s.csHandoff = false := by
  have hu := h.noMiddleState.resolve_right ha
  refine ⟨hu, (h.uninitializedSilent hu).1, ?_, ?_⟩
  · by_contra hb
    exact ha (inv_active_of_low h (h.busyOpen (by simpa using hb)).1)
  · by_contra hh
    exact ha (inv_active_of_low h (h.handoffOpen (by simpa using hh)).2)

/-- A synchronous frame of an `Active` block ends with chip-select high, no frame being open. -/
theorem inv_afterSync {s : State} (h : Inv s) (hs : Ready s) (opc : Byte) (delay : Half)
    (data : List Byte) : Inv (afterSync (syncFrame opc delay data) s) := by
  obtain ⟨ha, hb⟩ := hs
  obtain ⟨hspi, hrst, hbl, -, -⟩ := h.activeDriven ha
  refine inv_of_active ha hspi hrst hbl rfl ?_ (by simp [afterSync, hb]) nofun h.pendingBusy
  simp [afterSync, lastFrameOpen_append, openAfter_syncFrame]

/-- An asynchronous frame leaves chip-select low and the transfer in flight. -/
theorem inv_afterAsync {s : State} (h : Inv s) (ha : s.drvState = .active) (opc : Byte)
    (data : List Byte) : Inv (afterAsync (asyncFrame opc data) data s) := by
  obtain ⟨hspi, hrst, hbl, -, -⟩ := h.activeDriven ha
  refine inv_of_active ha hspi hrst hbl rfl ?_ (fun _ => rfl) nofun fun _ => rfl
  simp [afterAsync, lastFrameOpen_append, openAfter_asyncFrame]

theorem inv_afterInit {s : State} (h : Inv s) (ha : s.drvState ≠ .active) : Inv (afterInit s) := by
  obtain ⟨-, -, hb, -⟩ := inv_silent h ha
  refine inv_of_active rfl rfl rfl rfl rfl ?_ (by simp [afterInit, hb]) nofun h.pendingBusy
  simp [afterInit, lastFrameOpen_append, openAfter_initEvents]

/-- An event that neither begins nor ends a frame leaves it open or closed. -/
theorem lastFrameOpen_concat {e : Event} (he : ∀ b, openAfter b e = b) (tr : List Event) :
    lastFrameOpen (tr ++ [e]) = lastFrameOpen tr := by
  simp [lastFrameOpen_append, he]

/-- Where the transfer completes, chip-select stays low. -/
theorem inv_completionStep {s : State} (h : Inv s) (hb : s.asyncBusy = true)
    (hp : s.asyncPending = []) :
    Inv { s with trace := s.trace ++ [.adone], asyncBusy := false, csHandoff := true } := by
  obtain ⟨hlow, hdc⟩ := h.busyOpen hb
  have ha := inv_active_of_low h hlow
  obtain ⟨hspi, hrst, hbl, -, -⟩ := h.activeDriven ha
  refine inv_of_active ha hspi hrst hbl hdc ?_ nofun (fun _ => ⟨rfl, hlow⟩) (absurd hp)
  rw [lastFrameOpen_concat fun _ => rfl]
  exact h.activeSelect ha

theorem inv_deselect {s : State} (h : Inv s) (hcs : s.csHandoff = true) :
    Inv { s with trace := s.trace ++ [.envCs], pinCs := .high, csHandoff := false } := by
  obtain ⟨hb, hlow⟩ := h.handoffOpen hcs
  have ha := inv_active_of_low h hlow
  obtain ⟨hspi, hrst, hbl, -, -⟩ := h.activeDriven ha
  refine inv_of_active ha hspi hrst hbl (h.activeDataLevel ha) ?_ (by simp [hb]) nofun h.pendingBusy
  simp [lastFrameOpen_append, openAfter]

theorem inv_setRate {s : State} (h : Inv s) (ha : s.drvState = .active) (hz : Hertz) :
    Inv { s with trace := s.trace ++ [.spiHz hz], spiHz := hz } := by
  obtain ⟨hspi, hrst, hbl, -, -⟩ := h.activeDriven ha
  refine inv_of_active ha hspi hrst hbl (h.activeDataLevel ha) ?_ (fun hb => (h.busyOpen hb).1)
    h.handoffOpen h.pendingBusy
  rw [lastFrameOpen_concat fun _ => rfl]
  exact h.activeSelect ha

theorem inv_keptByMoves : KeptByMoves Inv where
  bookkeeping _ _ _ _ h := ⟨h.activeDriven, h.uninitializedSilent, h.noMiddleState, h.activeDataLevel,
    h.activeSelect, h.busyOpen, h.handoffOpen, h.pendingBusy⟩
  byteStep _ hb _ h := ⟨h.activeDriven, h.uninitializedSilent, h.noMiddleState, h.activeDataLevel,
    h.activeSelect, h.busyOpen, h.handoffOpen, fun _ => hb⟩
  completionStep _ hb hp h := inv_completionStep h hb hp
  deselect _ hcs h := inv_deselect h hcs
  init _ ha h := inv_afterInit h ha
  setRate _ hz hs h := inv_setRate h hs.1 hz
  syncFrame _ opc delay data hs _ h := inv_afterSync h hs opc delay data
  asyncFrame _ data hs h := inv_afterAsync h hs.1 Config.opcRamwr data

/-! ### R141 -/

theorem lineFrom_concat {l m : Line} {tr : List Event} (htr : lineFrom l tr = some m) (e : Event) :
    lineFrom l (tr ++ [e]) = m.next e := by
  rw [lineFrom_append, htr, Option.bind_some, lineFrom]
  cases m.next e <;> rfl

/-- With nothing in flight a framed trace stands where a frame may begin. -/
theorem framed_notBusy {s : State} (h : Framed s) (hb : s.asyncBusy = false) :
    ∃ l, lineFrom .idle s.trace = some l ∧ (l = .idle ∨ l = .closed ∨ l = .handed)
      ∧ (s.csHandoff = true ↔ l = .handed) := by
  obtain ⟨l, htr, hl, hbusy, hhand⟩ := h
  have hne : l ≠ .flight := fun hf => by simp [hbusy.mpr hf] at hb
  exact ⟨l, htr, by tauto, hhand⟩

theorem framed_completionStep {s : State} (h : Framed s) (hb : s.asyncBusy = true) :
    Framed { s with trace := s.trace ++ [.adone], asyncBusy := false, csHandoff := true } := by
  obtain ⟨l, htr, -, hbusy, -⟩ := h
  obtain rfl := hbusy.mp hb
  exact ⟨.handed, lineFrom_concat htr .adone, by simp⟩

theorem framed_deselect {s : State} (h : Framed s) (hb : s.asyncBusy = false)
    (hcs : s.csHandoff = true) :
    Framed { s with trace := s.trace ++ [.envCs], pinCs := .high, csHandoff := false } := by
  obtain ⟨l, htr, -, -, hhand⟩ := h
  obtain rfl := hhand.mp hcs
  exact ⟨.idle, lineFrom_concat htr .envCs, by simp [hb]⟩

/-- A rate may be set between two frames and during the hand-off, which it leaves (R141 (f)). -/
theorem framed_setRate {s : State} (h : Framed s) (hb : s.asyncBusy = false) (hz : Hertz) :
    Framed { s with trace := s.trace ++ [.spiHz hz], spiHz := hz } := by
  obtain ⟨l, htr, hl, hhand⟩ := framed_notBusy h hb
  have hnext := lineFrom_concat htr (.spiHz hz)
  obtain rfl | rfl | rfl := hl
  · exact ⟨.idle, hnext, by simp [hb, hhand]⟩
  · exact ⟨.idle, hnext, by simp [hb, hhand]⟩
  · exact ⟨.handed, hnext, by simp [hb, hhand]⟩

theorem framed_afterSync {s : State} (h : Framed s) (hb : s.asyncBusy = false) {opc : Byte}
    (ho : opc ∈ Config.opcodes) (delay : Half) (data : List Byte) :
    Framed (afterSync (syncFrame opc delay data) s) := by
  obtain ⟨l, htr, hl, -⟩ := framed_notBusy h hb
  have hline : lineFrom .idle (s.trace ++ syncFrame opc delay data)
      = some (if 0 < delay.toNat then .idle else .closed) := by
    rw [lineFrom_append, htr, Option.bind_some, lineFrom_syncFrame l hl opc delay data ho]
  refine ⟨_, hline, ?_⟩
  split <;> simp [afterSync, hb]

theorem framed_afterAsync {s : State} (h : Framed s) (hb : s.asyncBusy = false) {opc : Byte}
    (ho : opc ∈ Config.opcodes) (data : List Byte) :
    Framed (afterAsync (asyncFrame opc data) data s) := by
  obtain ⟨l, htr, hl, -⟩ := framed_notBusy h hb
  have hline : lineFrom .idle (s.trace ++ asyncFrame opc data) = some .flight := by
    rw [lineFrom_append, htr, Option.bind_some, lineFrom_asyncFrame l hl opc data ho]
  exact ⟨.flight, hline, by simp [afterAsync]⟩

/-- A first `init` finds an empty trace, from which its events keep the discipline. -/
theorem framed_afterInit {s : State} (h : Inv s) (ha : s.drvState ≠ .active) :
    Framed (afterInit s) := by
  obtain ⟨-, htr, hb, -⟩ := inv_silent h ha
  exact ⟨.closed, by simp [afterInit, htr, lineFrom_initEvents], by simp [afterInit, hb]⟩

theorem inv_and_framed_keptByMoves : KeptByMoves fun s => Inv s ∧ Framed s where
  bookkeeping s script latches retired h :=
    ⟨inv_keptByMoves.bookkeeping s script latches retired h.1, h.2⟩
  byteStep s hb hp h := ⟨inv_keptByMoves.byteStep s hb hp h.1, h.2⟩
  completionStep _ hb hp h := ⟨inv_completionStep h.1 hb hp, framed_completionStep h.2 hb⟩
  deselect _ hcs h := ⟨inv_deselect h.1 hcs, framed_deselect h.2 (h.1.handoffOpen hcs).1 hcs⟩
  init _ ha h := ⟨inv_afterInit h.1 ha, framed_afterInit h.1 ha⟩
  setRate _ hz hs h := ⟨inv_setRate h.1 hs.1 hz, framed_setRate h.2 hs.2 hz⟩
  syncFrame _ opc delay data hs hf h :=
    ⟨inv_afterSync h.1 hs opc delay data, framed_afterSync h.2 hs.2 hf.1 delay data⟩
  asyncFrame _ data hs h :=
    ⟨inv_afterAsync h.1 hs.1 _ data, framed_afterAsync h.2 hs.2 (by decide) data⟩

/-! ### R76, R138 -/

/-- Every transfer started has completed, but the one in flight. -/
def TransfersBalanced (s : State) : Prop :=
  started s.trace = completed s.trace + s.asyncBusy.toNat

/-- An event that starts and completes nothing leaves the balance. -/
theorem transfersBalanced_append {s : State} (h : TransfersBalanced s) {events : List Event}
    (hst : started events = 0) (hco : completed events = 0) :
    started (s.trace ++ events) = completed (s.trace ++ events) + s.asyncBusy.toNat := by
  rw [started_append, completed_append, hst, hco]
  exact h

theorem transfersBalanced_keptByMoves : KeptByMoves TransfersBalanced where
  bookkeeping _ _ _ _ h := h
  byteStep _ _ _ h := h
  completionStep s hb _ h := by
    have hdone : started s.trace = completed s.trace + 1 := by
      rw [TransfersBalanced, hb] at h
      exact h
    simp only [TransfersBalanced, started_append, completed_append, hdone]
    rfl
  deselect _ _ h := transfersBalanced_append h rfl rfl
  init _ _ h := transfersBalanced_append h started_initEvents completed_initEvents
  setRate _ _ _ h := transfersBalanced_append h rfl rfl
  syncFrame _ opc delay data _ _ h := transfersBalanced_append h (started_syncFrame opc delay data)
    (completed_syncFrame opc delay data)
  asyncFrame s data hs h := by
    have hnone : started s.trace = completed s.trace := by
      rw [TransfersBalanced, hs.2] at h
      exact h
    simp only [TransfersBalanced, afterAsync, started_append, completed_append, hnone]
    rfl

/-! ### R45 -/

/-- Only a COLMOD frame and the software reset write the colour mode (R45, R49). -/
theorem frame_colmod_of_ne (p : PeerRegs) {opc : Byte} (hreset : opc ≠ Config.opcSwreset)
    (hopc : opc ≠ Config.opcColmod) (params : List Byte) :
    (p.frame opc params).colmod = p.colmod := by
  simp only [PeerRegs.frame, if_neg hreset, if_neg hopc]
  split_ifs
  case pos | pos | pos | pos => rfl
  all_goals split <;> rfl

/-- A RAM write writes no register of the peer. -/
theorem frame_ramwr (p : PeerRegs) (params : List Byte) : p.frame Config.opcRamwr params = p := by
  simp (disch := decide) only [PeerRegs.frame, if_neg]
  split <;> rfl

/-- The view `OnlySixteenBit` asks for: colour mode 5 or none, no frame in progress but a RAM write. -/
def SixteenBitView (v : PeerView) : Prop :=
  (v.regs.colmod = none ∨ v.regs.colmod = some Config.colmode16)
    ∧ (v.opc = none ∨ v.opc = some Config.opcRamwr)

theorem onlySixteenBit_iff (s : State) : OnlySixteenBit s ↔ SixteenBitView (peerView s.trace) :=
  Iff.rfl

/-- A frame that may be sent writes no other colour mode, and is complete at its end. -/
theorem sixteenBitView_syncFrame {v : PeerView} {opc : Byte} {data : List Byte}
    (hf : Sendable opc data) (h : SixteenBitView v) (delay : Half) :
    SixteenBitView ((syncFrame opc delay data).foldl PeerView.event v) := by
  rw [peerView_syncFrame]
  refine ⟨?_, .inl rfl⟩
  by_cases hreset : opc = Config.opcSwreset
  · exact .inl (by rw [hreset]; rfl)
  by_cases hopc : opc = Config.opcColmod
  · exact .inr (by rw [hf.2 hopc, hopc]; rfl)
  · have hkept := frame_colmod_of_ne v.regs hreset hopc data
    exact h.1.imp hkept.trans hkept.trans

/-- A RAM write left open is the frame in progress. -/
theorem sixteenBitView_asyncFrame {v : PeerView} (h : SixteenBitView v) (data : List Byte) :
    SixteenBitView ((asyncFrame Config.opcRamwr data).foldl PeerView.event v) :=
  ⟨h.1, .inr rfl⟩

/-- The only frame in progress to complete is a RAM write, which writes no register. -/
theorem sixteenBitView_complete {v : PeerView} (h : SixteenBitView v) : SixteenBitView v.complete := by
  obtain ⟨regs, command, opc, params⟩ := v
  obtain ⟨hcolmod, rfl | rfl⟩ := h
  · exact ⟨hcolmod, .inl rfl⟩
  · refine ⟨?_, .inl rfl⟩
    simpa only [PeerView.complete, frame_ramwr] using hcolmod

/-- Whatever the peer's registers held before `init`, the reset pulse takes their values and the frames
after it write four (R45, R46, R48, R49). -/
theorem peerView_initEvents (v : PeerView) :
    initEvents.foldl PeerView.event v =
      { regs := { colmod := some 5, madctl := some 0, sleep := some false, dispon := some true } } :=
  rfl

theorem sixteenBitView_append {tr events : List Event}
    (h : SixteenBitView (events.foldl PeerView.event (peerView tr))) :
    SixteenBitView (peerView (tr ++ events)) := by
  rwa [peerView_append]

theorem sixteenBitView_keptByMoves : KeptByMoves fun s => SixteenBitView (peerView s.trace) where
  bookkeeping _ _ _ _ h := h
  byteStep _ _ _ h := h
  completionStep _ _ _ h := sixteenBitView_append (sixteenBitView_complete h)
  deselect _ _ h := sixteenBitView_append h
  init s _ _ := by
    refine sixteenBitView_append ?_
    rw [peerView_initEvents]
    exact ⟨.inr rfl, .inl rfl⟩
  setRate _ _ _ h := sixteenBitView_append h
  syncFrame _ _ delay _ _ hf h := sixteenBitView_append (sixteenBitView_syncFrame hf h delay)
  asyncFrame _ data _ h := sixteenBitView_append (sixteenBitView_asyncFrame h data)

/-! ### R23, R24 -/

/-- A synchronous frame constructs no transport. -/
theorem count_spiNew_syncFrame (opc : Byte) (delay : Half) (data : List Byte) :
    (syncFrame opc delay data).count .spiNew = 0 := by
  rw [List.count_eq_zero, syncFrame]
  split <;> simp

/-- The trace holds one `SPI_NEW` exactly when the transport exists. -/
def TransportOnce (s : State) : Prop :=
  (s.drvState = .uninitialized → s.spiPresent = false)
    ∧ s.trace.count .spiNew = s.spiPresent.toNat

/-- Events without an `SPI_NEW` leave the count. -/
theorem count_spiNew_append {s : State} (h : s.trace.count .spiNew = s.spiPresent.toNat)
    {events : List Event} (hev : events.count .spiNew = 0) :
    (s.trace ++ events).count .spiNew = s.spiPresent.toNat := by
  rw [List.count_append, hev]
  exact h

theorem transportOnce_keptByMoves : KeptByMoves fun s => Inv s ∧ TransportOnce s where
  bookkeeping s script latches retired h :=
    ⟨inv_keptByMoves.bookkeeping s script latches retired h.1, h.2⟩
  byteStep s hb hp h := ⟨inv_keptByMoves.byteStep s hb hp h.1, h.2⟩
  completionStep _ hb hp h := ⟨inv_completionStep h.1 hb hp, h.2.1, count_spiNew_append h.2.2 rfl⟩
  deselect _ hcs h := ⟨inv_deselect h.1 hcs, h.2.1, count_spiNew_append h.2.2 rfl⟩
  init s ha h := by
    obtain ⟨-, htr, -⟩ := inv_silent h.1 ha
    refine ⟨inv_afterInit h.1 ha, nofun, ?_⟩
    rw [afterInit, htr]
    exact count_spiNew_initEvents
  setRate _ hz hs h := ⟨inv_setRate h.1 hs.1 hz, h.2.1, count_spiNew_append h.2.2 rfl⟩
  syncFrame _ opc delay data hs _ h := ⟨inv_afterSync h.1 hs opc delay data, h.2.1,
    count_spiNew_append h.2.2 (count_spiNew_syncFrame opc delay data)⟩
  asyncFrame _ data hs h :=
    ⟨inv_afterAsync h.1 hs.1 _ data, h.2.1, count_spiNew_append h.2.2 rfl⟩

/-- No move takes the transport away (R23). -/
theorem spiPresent_keptByMoves : KeptByMoves fun s => s.spiPresent = true where
  bookkeeping _ _ _ _ h := h
  byteStep _ _ _ h := h
  completionStep _ _ _ h := h
  deselect _ _ h := h
  init _ _ _ := rfl
  setRate _ _ _ h := h
  syncFrame _ _ _ _ _ _ h := h
  asyncFrame _ _ _ h := h

/-- While the transport exists the last `SPI_HZ` carries `spi_hz`. -/
def RateRecorded (s : State) : Prop :=
  s.spiPresent = true → rateAfter none s.trace = some s.spiHz

theorem rateRecorded_keptByMoves : KeptByMoves RateRecorded where
  bookkeeping _ _ _ _ h := h
  byteStep _ _ _ h := h
  completionStep _ _ _ h hspi := by rw [rateAfter_append, h hspi]; rfl
  deselect _ _ h hspi := by rw [rateAfter_append, h hspi]; rfl
  init s _ _ _ := by rw [afterInit, rateAfter_append, rateAfter_initEvents]
  setRate _ _ _ _ _ := by rw [rateAfter_append]; rfl
  syncFrame _ opc delay data _ _ h hspi := by
    rw [afterSync, rateAfter_append, h hspi, rateAfter_syncFrame]
  asyncFrame _ _ _ h hspi := by rw [afterAsync, rateAfter_append, h hspi]; rfl

end Sys2Proof.Machine

namespace Sys2Proof

open Machine

/-- Settles O43: each clause of R52 survives each move; a frame leaves chip-select as the openness of
the last frame says, and only an `Active` block has anything in flight. -/
theorem stepKeepsTheInvariants : Obligations.StepKeepsTheInvariants :=
  fun _ _ h hst => inv_keptByMoves.step h hst

/-- Settles O44: with the invariants, a frame finds the trace where one may begin and leaves it between
two frames or in flight, and every other move takes one step of the discipline. -/
theorem stepKeepsTheFraming : Obligations.StepKeepsTheFraming :=
  fun _ _ hinv h hst => (inv_and_framed_keptByMoves.step ⟨hinv, h⟩ hst).2

/-- Settles O45: only the asynchronous frame starts a transfer, with none in flight, and only the
completion step ends one. -/
theorem everyTransferCompletesOnce : Obligations.EveryTransferCompletesOnce :=
  fun _ _ h hst => transfersBalanced_keptByMoves.step h hst

/-- Settles O46: no frame that may be sent carries another colour mode, and the frame left in progress
writes no register when it completes. -/
theorem peerColourModeIsSixteenBit : Obligations.PeerColourModeIsSixteenBit :=
  fun s t h hst =>
    (onlySixteenBit_iff t).mpr (sixteenBitView_keptByMoves.step ((onlySixteenBit_iff s).mp h) hst)

/-- Settles O47: `init` alone emits an `SPI_NEW`, and outside `Active` the trace before it is empty. -/
theorem transportIsCreatedOnce : Obligations.TransportIsCreatedOnce := by
  intro s t hinv huninit hcount hst
  obtain ⟨-, huninit', hcount'⟩ := transportOnce_keptByMoves.step ⟨hinv, huninit, hcount⟩ hst
  exact ⟨hcount', huninit', fun hspi => spiPresent_keptByMoves.step hspi hst⟩

/-- Settles O48: the two moves that emit an `SPI_HZ` record its rate. -/
theorem rateIsTheLastSet : Obligations.RateIsTheLastSet :=
  fun _ _ h hst => rateRecorded_keptByMoves.step h hst

/-- Settles O42: at reset the trace is empty and nothing is in flight. -/
theorem invariantsHoldAtReset : Obligations.InvariantsHoldAtReset := by
  have hinv : Safety.Inv State.reset :=
    ⟨nofun, fun _ => ⟨rfl, rfl, rfl, rfl, rfl⟩, .inl rfl, nofun, nofun, nofun, nofun, absurd rfl⟩
  have hframed : Safety.Framed State.reset := ⟨.idle, rfl, .inl rfl, by decide, by decide⟩
  exact ⟨hinv, hframed, rfl, rfl, .inl rfl, .inl rfl⟩

end Sys2Proof
end

section
/-! Proofs about stepping: which agent moves, what a presented packet does, the recording of an outcome,
the transfer run to its end by steps, the two orders of a completion and a request, the sequencer state
(spec/10_state.md R21, R31, R50; spec/40_framer.md R138; spec/60_exceptions.md R210, R214, R219). -/

namespace Sys2Proof.Machine

open Safety

/-! ### One step by its move -/

theorem presentPacket_ok {p : Packet} {i : Instr} (hd : decode p = .ok i) (s : State) :
    presentPacket p s = exec i s := by
  simp [presentPacket, hd]

theorem presentPacket_error {p : Packet} {e : DecodeError} (hd : decode p = .error e) (s : State) :
    presentPacket p s = .refused (refusalOf e) := by
  simp [presentPacket, hd]

theorem step_present {s : State} {p : Packet} {rest : List Move} (hf : s.fault = none)
    (hs : s.script = .present p :: rest) : step s = presentPacket p { s with script := rest } := by
  simp [step, takeMove, hf, hs]

theorem step_engine {s : State} {rest : List Move} (hf : s.fault = none)
    (hs : s.script = .engine :: rest) : step s = .next (engineMove { s with script := rest }) := by
  simp [step, takeMove, hf, hs]

theorem step_deselect {s : State} {rest : List Move} (hf : s.fault = none)
    (hs : s.script = .deselect :: rest) : step s = .next (deselectMove { s with script := rest }) := by
  simp [step, takeMove, hf, hs]

/-- With the script at its end the engine moves (log 2). -/
theorem step_scriptEnd {s : State} (hf : s.fault = none) (hs : s.script = []) :
    step s = .next (engineMove s) := by
  simp [step, takeMove, hf, hs]

theorem step_faulted {s : State} {f : Fault} (hf : s.fault = some f) : step s = .fault f := by
  simp [step, hf]

/-- The step that is presented an instruction runs it. -/
theorem step_present_exec {s : State} {p : Packet} {rest : List Move} {i : Instr}
    (hf : s.fault = none) (hs : s.script = .present p :: rest) (hd : decode p = .ok i) :
    step s = exec i { s with script := rest } :=
  (step_present hf hs).trans (presentPacket_ok hd _)

/-- A word of the opcode table is read as the decoder reads its packet (log 4). -/
theorem decode_packetOfWord {nbits w : Nat} {i : Instr} (h : decodeTableWord nbits w = some i) :
    decode (packetOfWord nbits w) = .ok i := by
  simp only [decodeTableWord] at h
  cases hd : decode (packetOfWord nbits w) with
  | error e => simp [hd] at h
  | ok j =>
    simp only [hd, Option.some.injEq] at h
    rw [h]

/-! ### Recording an outcome -/

theorem takeMove_trace (s : State) : (takeMove s).2.trace = s.trace := by
  obtain ⟨-, h⟩ | ⟨m, rest, -, h⟩ := takeMove_cases s <;> rw [h]

theorem takeMove_cons {s : State} {m : Move} {rest : List Move} (hs : s.script = m :: rest) :
    takeMove s = (m, { s with script := rest }) := by
  simp [takeMove, hs]

/-- R31: a fault is recorded if none was, and nothing is emitted. -/
theorem advance_fault {s : State} {f : Fault} (h : step s = .fault f) :
    (advance s).fault = some (s.fault.getD f) ∧ (advance s).trace = s.trace := by
  rw [advance, h]
  exact ⟨rfl, takeMove_trace s⟩

/-- R31, R210: a run with a fault keeps it and its trace, however long it goes on. -/
theorem advanceN_faulted (n : Nat) {s : State} {f : Fault} (hf : s.fault = some f) :
    (advanceN n s).fault = some f ∧ (advanceN n s).trace = s.trace := by
  induction n generalizing s with
  | zero => exact ⟨hf, rfl⟩
  | succ n ih =>
    obtain ⟨hfault, htrace⟩ := advance_fault (step_faulted hf)
    rw [hf, Option.getD_some] at hfault
    rw [← htrace]
    exact ih hfault

theorem advance_next {s t : State} (h : step s = .next t) : advance s = t := by
  rw [advance, h]
  rfl

/-- R214: a refusal takes the move and leaves the mark. -/
theorem advance_refused {s : State} {m : Move} {rest : List Move} {r : Refusal}
    (hs : s.script = m :: rest) (h : step s = .refused r) :
    advance s = { s with script := rest, refusedSeen := true } := by
  rw [advance, h, recordOutcome, takeMove_cons hs]

/-! ### The transfer run to its end by steps -/

theorem engineMove_fault (s : State) : (engineMove s).fault = s.fault := by
  obtain ⟨-, -, h⟩ | ⟨-, -, h⟩ | ⟨-, h⟩ := engineMove_cases s <;> rw [h]
  rfl

theorem engineMove_script (s : State) : (engineMove s).script = s.script := by
  obtain ⟨-, -, h⟩ | ⟨-, -, h⟩ | ⟨-, h⟩ := engineMove_cases s <;> rw [h]
  rfl

/-- With the script at its end every step is the engine's. -/
theorem advanceN_scriptEnd (n : Nat) {s : State} (hf : s.fault = none) (hs : s.script = []) :
    advanceN n s = engineMove^[n] s := by
  induction n generalizing s with
  | zero => rfl
  | succ n ih =>
    rw [advanceN, advance_next (step_scriptEnd hf hs), Function.iterate_succ_apply]
    exact ih ((engineMove_fault s).trans hf) ((engineMove_script s).trans hs)

/-! ### A request among the other moves -/

/-- A ready block that is presented SET_SLEEP does it, takes the request and ends the hand-off. -/
theorem step_setSleep {s : State} {flag : Bool} {rest : List Move} (hf : s.fault = none)
    (hs : s.script = .present (encode (.setSleep flag)) :: rest) (hr : Ready s) :
    ∃ u, step s = .next u ∧ u.script = rest ∧ u.fault = none ∧ u.csHandoff = false := by
  rw [step_present_exec hf hs (decode_encode _)]
  exact ⟨_, exec_ready (.setSleep flag) { s with script := rest } nofun rfl hr.1 hr.2, rfl, hf, rfl⟩

/-- R219: a request before the completion overlaps. -/
theorem step_request_beforeCompletion {s : State} {flag : Bool} {rest : List Move}
    (hf : s.fault = none) (hs : s.script = .present (encode (.setSleep flag)) :: rest)
    (ha : s.drvState = .active) (hb : s.asyncBusy = true) : step s = .fault .asyncOverlap := by
  rw [step_present_exec hf hs (decode_encode _)]
  exact exec_overlap nofun rfl ha hb

/-- R219: a request after the completion is done. -/
theorem step_completion_request {s : State} {flag : Bool} {rest : List Move} (hf : s.fault = none)
    (hs : s.script = .engine :: .present (encode (.setSleep flag)) :: rest)
    (ha : s.drvState = .active) (hb : s.asyncBusy = true) (hp : s.asyncPending = []) :
    ∃ t, step s = .next t ∧ ∃ u, step t = .next u ∧ u.script = rest := by
  have hstep := step_engine hf hs
  rw [engineMove_drained (by exact hb) (by exact hp), completionStep_eq] at hstep
  obtain ⟨u, hu, hscript, -⟩ := step_setSleep (s := { s with
    trace := s.trace ++ [.adone], asyncBusy := false, csHandoff := true
    script := .present (encode (.setSleep flag)) :: rest }) hf rfl ⟨ha, rfl⟩
  exact ⟨_, hstep, u, hu, hscript⟩

/-- R219: the deselect before a request leaves chip-select high, and the request is done. -/
theorem step_deselect_request {s : State} {flag : Bool} {rest : List Move} (hf : s.fault = none)
    (hs : s.script = .deselect :: .present (encode (.setSleep flag)) :: rest) (hr : Ready s)
    (hcs : s.csHandoff = true) :
    ∃ t, step s = .next t ∧ t.pinCs = .high ∧ ∃ u, step t = .next u ∧ u.csHandoff = false := by
  have hstep := step_deselect hf hs
  rw [deselectMove_handed (by exact hcs)] at hstep
  obtain ⟨u, hu, -, -, hover⟩ := step_setSleep (s := { s with
    trace := s.trace ++ [.envCs], pinCs := .high, csHandoff := false
    script := .present (encode (.setSleep flag)) :: rest }) hf rfl hr
  exact ⟨_, hstep, rfl, u, hu, hover⟩

/-- R219: the request before the deselect is done, and the deselect then has no effect. -/
theorem step_request_deselect {s : State} {flag : Bool} {rest : List Move} (hf : s.fault = none)
    (hs : s.script = .present (encode (.setSleep flag)) :: .deselect :: rest) (hr : Ready s) :
    ∃ t, step s = .next t ∧ t.csHandoff = false ∧ ∃ u, step t = .next u ∧ u.trace = t.trace := by
  obtain ⟨t, ht, hscript, hfault, hover⟩ := step_setSleep hf hs hr
  have hidle : deselectMove { t with script := rest } = { t with script := rest } :=
    deselectMove_notHanded hover
  exact ⟨t, ht, hover, _, step_deselect hfault hscript, by rw [hidle]⟩

/-! ### The sequencer state -/

/-- R21: an instruction moves the sequencer only if it is `init`, and then to `Active`. -/
theorem exec_drvState {i : Instr} {s t : State} (h : exec i s = .next t) :
    t.drvState = s.drvState ∨ (i = .init ∧ t.drvState = .active) := by
  obtain ⟨-, -, rfl⟩ | ⟨rfl, -, rfl⟩ | ⟨-, -, -, -, rfl⟩ := exec_next_cases h
  · exact .inl rfl
  · exact .inr ⟨rfl, rfl⟩
  · exact .inl (effect_keeps i s).1

theorem engineMove_drvState (s : State) : (engineMove s).drvState = s.drvState := by
  obtain ⟨-, -, h⟩ | ⟨-, -, h⟩ | ⟨-, h⟩ := engineMove_cases s <;> rw [h]
  rfl

theorem deselectMove_drvState (s : State) : (deselectMove s).drvState = s.drvState := by
  obtain ⟨-, h⟩ | ⟨-, h⟩ := deselectMove_cases s <;> rw [h]

/-- R21: a step moves the sequencer only if it is presented `init`, and then to `Active`. -/
theorem step_drvState {s t : State} (h : step s = .next t) :
    t.drvState = s.drvState
      ∨ (t.drvState = .active ∧ ∃ p rest, s.script = .present p :: rest ∧ decode p = .ok .init) := by
  obtain ⟨-, ⟨p, rest, i, hs, hd, hexec⟩ | ⟨rest, rfl⟩ | ⟨rest, -, rfl⟩⟩ := step_next_cases h
  · obtain hkept | ⟨rfl, ht⟩ := exec_drvState hexec
    · exact .inl hkept
    · exact .inr ⟨ht, p, rest, hs, hd⟩
  · exact .inl (engineMove_drvState _)
  · exact .inl (deselectMove_drvState _)

/-- R50: no step leads back to the sequencer state of reset. -/
theorem step_ne_uninitialized {s t : State} (hs : s.drvState ≠ .uninitialized)
    (h : step s = .next t) : t.drvState ≠ .uninitialized := by
  obtain hkept | ⟨ht, -⟩ := step_drvState h
  · rwa [hkept]
  · simp [ht]

end Sys2Proof.Machine

namespace Sys2Proof

open Machine

/-- Settles O7: recording a fault keeps an older one and emits nothing, and a recorded fault stops every
later step, by induction on their number. -/
theorem firstFaultIsKept : Obligations.FirstFaultIsKept := by
  refine ⟨fun s f hf h => ?_, fun n s f hf => ?_⟩
  · have hadv := advance_fault h
    rwa [hf] at hadv
  · obtain ⟨hfault, htrace⟩ := advanceN_faulted n hf
    exact ⟨hfault, htrace, step_faulted hfault⟩

/-- Settles O18: with the script at its end the steps are the engine's moves, which drain the transfer. -/
theorem transferRunsToCompletion : Obligations.TransferRunsToCompletion := by
  intro s hf hs hb
  rw [advanceN_scriptEnd _ hf hs]
  exact engineMove_iterate_drains s.asyncPending s hb rfl

/-- Settles O19: before the completion the request overlaps, after it the block is ready; the deselect
and the request each end the hand-off, so the later of the two finds it over. -/
theorem eitherOrderOfCompletionAndRequest : Obligations.EitherOrderOfCompletionAndRequest := by
  refine ⟨fun s flag hf ha hb hp => ⟨?_, ?_⟩, fun s flag hf ha hb hcs => ⟨?_, ?_⟩⟩
  · exact step_request_beforeCompletion (s := { s with script := _ }) hf rfl ha hb
  · exact step_completion_request (s := { s with script := _ }) hf rfl ha hb hp
  · exact step_deselect_request (s := { s with script := _ }) hf rfl ⟨ha, hb⟩ hcs
  · exact step_request_deselect (s := { s with script := _ }) hf rfl ⟨ha, hb⟩

/-- Settles O49: the cases of a step, of which only the one presented `init` writes the sequencer
state. -/
theorem onlyInitMovesTheSequencer : Obligations.OnlyInitMovesTheSequencer :=
  fun _ _ h hne => (step_drvState h).resolve_left hne

/-- Settles O1: the reset values by evaluation; what no step and no engine move does by their cases. -/
theorem resetLeavesTheTabledValues : Obligations.ResetLeavesTheTabledValues :=
  ⟨rfl, rfl, rfl, rfl, rfl, rfl, rfl, rfl, rfl, rfl, rfl, rfl, rfl,
    fun _ _ => step_ne_uninitialized, fun _ => engineMove_notBusy⟩

/-- Settles O3: the branch of a step that takes a presented packet. -/
theorem stepRunsTheDecodedInstruction : Obligations.StepRunsTheDecodedInstruction :=
  fun _ _ _ _ => step_present_exec

/-- Settles O4: the placed word's packet is the next move, and taking it gives the state back. -/
theorem placedWordIsRunNext : Obligations.PlacedWordIsRunNext := fun s nbits w _ hf hw =>
  step_present_exec (s := s.withFetchWord nbits w) hf rfl (decode_packetOfWord hw)

/-- Settles O6: a reserved select does not decode, so the packet is refused and the run marked. -/
theorem reservedSelectIsRefused : Obligations.ReservedSelectIsRefused := by
  intro s r rest hf hs hsel
  have hrefused : step s = .refused .badOp :=
    (step_present hf hs).trans
      (presentPacket_error (p := .request r) (decodeRequest_reserved hsel) _)
  have hadv := advance_refused hs hrefused
  refine ⟨hrefused, rfl, hadv, fun hover => ?_⟩
  rw [hadv] at hover
  obtain ⟨-, -, -, hmark⟩ := hover
  simp at hmark

end Sys2Proof
end

section
/-! Proofs about the outcomes and the frames of the instructions: the wire commands presented alone, the
order of the checks, what an instruction leaves unchanged and does not read (spec/10_state.md R20, R30;
spec/30_encoding.md R91, R121, R122; spec/60_exceptions.md R216). -/

namespace Sys2Proof.Machine

open Safety

/-! ### One frame alone -/

/-- An admitted instruction whose only frame is a synchronous one completes with it. -/
theorem completes_syncFrame {i : Instr} {s : State} {opc : Byte} {delay : Half} {data : List Byte}
    (hw : wellFormed i = true) (hs : Ready s) (hp : asyncPayload i = none)
    (hf : syncFrames i = [(opc, delay, data)]) :
    Completes i s (afterSync (syncFrame opc delay data) s) := by
  have hi : i ≠ .init := by
    rintro rfl
    simp [syncFrames] at hf
  have h := completes_effect hi hw hs
  obtain ⟨hz, rfl, -⟩ | ⟨payload, hpayload, -⟩ | ⟨-, -, heq⟩ := effect_cases i hi s
  · simp [syncFrames] at hf
  · simp [hp] at hpayload
  · rw [heq, hf, syncEvents_cons] at h
    simpa [syncEvents] using h

/-- R105: the reserved bits are the two lowest. -/
theorem mdacLegal_eq_true_iff (cfg : Byte) : mdacLegal cfg = true ↔ cfg.toNat % 4 = 0 := by
  obtain ⟨-, -, -, -, hreserved⟩ := unpackMdac_toNat cfg
  rw [mdacLegal, beq_iff_eq, ← hreserved, ← BitVec.toNat_inj]
  rfl

/-- R45, R104: the one colour-mode code the block sends. -/
theorem colourModeLegal_eq_true_iff (cfg : Byte) : colourModeLegal cfg = true ↔ cfg = 5 := by
  simp [colourModeLegal, colourModeByte, Config.colmode16]

/-! ### The order of the checks -/

/-- R216: ill-formed operands are refused in every state, for one reason. -/
theorem exec_illFormed {i : Instr} (hw : wellFormed i = false) : ∃ r, ∀ s, exec i s = .refused r := by
  cases i with
  | sendPixelData r data | sendPixelDataAsync r data | setDrawWindow r =>
    exact ⟨.badRect, fun s => acceptWindow_disordered r _ s hw⟩
  | madctl cfg delay =>
    have hc : mdacLegal cfg = false := hw
    exact ⟨.badMdac, fun s => by simp [exec_madctl, hc]⟩
  | colmod cfg delay =>
    have hc : colourModeLegal cfg = false := hw
    exact ⟨.badColourMode, fun s => by simp [exec_colmod, hc]⟩
  | _ => cases hw

/-- R216: the check that an instruction meets first decides its outcome. -/
theorem exec_outcome (i : Instr) (s : State) :
    (i = .init ∧ ∃ t, exec i s = .next t)
      ∨ (i ≠ .init ∧ wellFormed i = false ∧ ∃ r, exec i s = .refused r)
      ∨ (i ≠ .init ∧ wellFormed i = true ∧ s.drvState ≠ .active ∧ exec i s = .fault .notActive)
      ∨ (i ≠ .init ∧ wellFormed i = true ∧ s.drvState = .active ∧ s.asyncBusy = true
          ∧ exec i s = .fault .asyncOverlap)
      ∨ (i ≠ .init ∧ wellFormed i = true ∧ s.drvState = .active ∧ s.asyncBusy = false
          ∧ ∃ t, exec i s = .next t) := by
  by_cases hi : i = .init
  · obtain ⟨t, ht, -⟩ := exec_init_next_active s
    exact .inl ⟨hi, t, hi ▸ ht⟩
  cases hw : wellFormed i with
  | false =>
    obtain ⟨r, hr⟩ := exec_illFormed hw
    exact .inr (.inl ⟨hi, rfl, r, hr s⟩)
  | true =>
    by_cases ha : s.drvState = .active
    · cases hb : s.asyncBusy with
      | true => exact .inr (.inr (.inr (.inl ⟨hi, rfl, ha, rfl, exec_overlap hi hw ha hb⟩)))
      | false => exact .inr (.inr (.inr (.inr ⟨hi, rfl, ha, rfl, _, exec_ready i s hi hw ha hb⟩)))
    · exact .inr (.inr (.inl ⟨hi, rfl, ha, exec_notActive hi hw ha⟩))

/-! ### What an effect leaves unchanged -/

/-- R204: only SET_UPDATE_RATE writes the rate. -/
theorem effect_spiHz {i : Instr} (hr : ∀ hz, i ≠ .setUpdateRate hz) (hi : i ≠ .init) (s : State) :
    (effect i s).spiHz = s.spiHz := by
  obtain ⟨hz, rfl, -⟩ | ⟨data, -, heq⟩ | ⟨-, -, heq⟩ := effect_cases i hi s
  · exact absurd rfl (hr hz)
  · rw [heq, afterAsync]
  · rw [heq, afterSync]

/-- R134: only an instruction with an asynchronous payload starts a transfer. -/
theorem effect_async {i : Instr} (hp : asyncPayload i = none) (hi : i ≠ .init) (s : State) :
    (effect i s).asyncBusy = s.asyncBusy ∧ (effect i s).asyncPending = s.asyncPending := by
  obtain ⟨hz, rfl, -⟩ | ⟨data, hdata, -⟩ | ⟨-, -, heq⟩ := effect_cases i hi s
  · exact ⟨rfl, rfl⟩
  · simp [hp] at hdata
  · rw [heq, afterSync]
    exact ⟨rfl, rfl⟩

/-- The two instructions with an asynchronous payload. -/
theorem asyncPayload_eq_none {i : Instr} (hpix : ∀ r data, i ≠ .sendPixelDataAsync r data)
    (hram : ∀ data, i ≠ .ramwr data .async) : asyncPayload i = none := by
  cases i with
  | sendPixelDataAsync r data => exact absurd rfl (hpix r data)
  | ramwr data variant =>
    cases variant with
    | sync delay => rfl
    | async => exact absurd rfl (hram data)
  | _ => rfl

/-! ### What an instruction does not read -/

/-- No effect reads the latches (R30). -/
theorem effect_latches (i : Instr) (s : State) (l : Latches) :
    effect i { s with latches := l } = { effect i s with latches := l } := by
  cases i with
  | ramwr data variant => cases variant <;> rfl
  | _ => rfl

/-- No effect but SET_UPDATE_RATE's reads or writes the rate (R205). -/
theorem effect_at_rate {i : Instr} (hr : ∀ hz, i ≠ .setUpdateRate hz) (s : State) (f : Hertz) :
    effect i { s with spiHz := f } = { effect i s with spiHz := f } := by
  cases i with
  | setUpdateRate hz => exact absurd rfl (hr hz)
  | ramwr data variant => cases variant <;> rfl
  | _ => rfl

/-- R30: an instruction but `init` reads no latch that it has not loaded. -/
theorem exec_latches {i : Instr} (hi : i ≠ .init) (s : State) (l : Latches) :
    exec i { s with latches := l } = exec i s := by
  cases hw : wellFormed i with
  | false =>
    obtain ⟨r, hr⟩ := exec_illFormed hw
    rw [hr, hr]
  | true =>
    by_cases ha : s.drvState = .active
    · obtain hb | hb := Bool.eq_false_or_eq_true s.asyncBusy
      · exact (exec_overlap (s := { s with latches := l }) hi hw ha hb).trans
          (exec_overlap hi hw ha hb).symm
      · rw [exec_ready i { s with latches := l } hi hw ha hb, exec_ready i s hi hw ha hb,
          effect_latches]
    · exact (exec_notActive (s := { s with latches := l }) hi hw ha).trans
        (exec_notActive hi hw ha).symm

/-- R30: a first `init` reads no latch that it has not loaded. -/
theorem exec_init_first_latches {s : State} (ha : s.drvState ≠ .active) (l : Latches) :
    exec .init { s with latches := l } = exec .init s := by
  rw [exec_init_first_afterInit s ha, exec_init_first_afterInit { s with latches := l } ha]
  rfl

end Sys2Proof.Machine

namespace Sys2Proof

open Machine

/-- Settles O29: each command's only frame has its opcode, the delay given and no parameter byte. -/
theorem parameterlessCommandsSendOneFrame : Obligations.ParameterlessCommandsSendOneFrame :=
  fun _ _ hs => ⟨completes_syncFrame rfl hs rfl rfl, completes_syncFrame rfl hs rfl rfl,
    completes_syncFrame rfl hs rfl rfl, completes_syncFrame rfl hs rfl rfl,
    completes_syncFrame rfl hs rfl rfl⟩

/-- Settles O30: the command's only frame carries the two coordinates, zero-extended. -/
theorem addressSetCommandsSendFourBytes : Obligations.AddressSetCommandsSendFourBytes := by
  intro first last delay s hs
  rw [← coordBytes_eq]
  exact ⟨completes_syncFrame rfl hs rfl rfl, completes_syncFrame rfl hs rfl rfl⟩

/-- Settles O31: by either primitive the effect is the one frame of the bytes given. -/
theorem ramWriteSendsItsBytes : Obligations.RamWriteSendsItsBytes := fun data _ hs =>
  ⟨fun _ => completes_syncFrame rfl hs rfl rfl,
    completes_effect (i := .ramwr data .async) nofun rfl hs⟩

/-- Settles O32: the operand check is the comparison the statement makes; past it the command's only
frame carries the byte. -/
theorem configurationCommandsSendOneByte : Obligations.ConfigurationCommandsSendOneByte := by
  intro cfg delay s
  refine ⟨fun hc hs => ?_, fun hc => ?_, fun hc hs => ?_, fun hc => ?_⟩
  · exact completes_syncFrame ((colourModeLegal_eq_true_iff cfg).mpr hc) hs rfl rfl
  · rw [exec_colmod, if_neg (mt (colourModeLegal_eq_true_iff cfg).mp hc)]
  · exact completes_syncFrame ((mdacLegal_eq_true_iff cfg).mpr hc) hs rfl rfl
  · rw [exec_madctl, if_neg (mt (mdacLegal_eq_true_iff cfg).mp hc)]

/-- Settles O35: the five cases of an outcome exclude each other, so each determines all four
equivalences. -/
theorem checksDecideTheOutcome : Obligations.ChecksDecideTheOutcome := by
  intro i s
  obtain ⟨rfl, t, h⟩ | ⟨hi, hw, r, h⟩ | ⟨hi, hw, ha, h⟩ | ⟨hi, hw, ha, hb, h⟩
    | ⟨hi, hw, ha, hb, t, h⟩ := exec_outcome i s
  · simp [h, wellFormed]
  · simp [h, hi, hw]
  · simp [h, hi, hw, ha, Safety.Ready]
  · simp [h, hi, hw, ha, hb, Safety.Ready]
  · simp [h, hi, hw, ha, hb, Safety.Ready]

/-- Settles O37: the state left is the effect, which writes what its shape says. -/
theorem frameOfEveryInstructionButInit : Obligations.FrameOfEveryInstructionButInit := by
  intro i s t hi hexec
  obtain ⟨rfl, -⟩ | ⟨rfl, -⟩ | ⟨-, -, -, -, rfl⟩ := exec_next_cases hexec
  · exact absurd rfl hi
  · exact absurd rfl hi
  obtain ⟨hdrv, hspi, hrst, hbl, hfault, hmark, hscript⟩ := effect_keeps i s
  refine ⟨hdrv, hspi, hrst, hbl, hfault, hmark, hscript, fun hr => effect_spiHz hr hi s, ?_,
    fun hpix hram => effect_async (asyncPayload_eq_none hpix hram) hi s⟩
  rintro ⟨hz, rfl⟩
  exact ⟨rfl, rfl, rfl⟩

/-- Settles O38: in `Active` nothing changes; before it the sequence writes none of these fields. -/
theorem frameOfInit : Obligations.FrameOfInit := by
  intro s t h
  by_cases ha : s.drvState = .active
  · rw [exec_init_active s ha] at h
    obtain rfl := Host.Outcome.next.inj h
    exact ⟨rfl, rfl, rfl, rfl, rfl⟩
  · rw [exec_init_first_afterInit s ha] at h
    obtain rfl := Host.Outcome.next.inj h
    exact ⟨rfl, rfl, rfl, rfl, rfl⟩

/-- Settles O40: the checks read no latch, the effect and the sequence of `init` load what they read,
and the latches left are fresh. -/
theorem deadLatchesAreNotRead : Obligations.DeadLatchesAreNotRead := by
  intro i s l h
  by_cases hi : i = .init
  · subst hi
    exact exec_init_first_latches (h.resolve_left (absurd rfl)) l
  · exact exec_latches hi s l

/-- Settles O41: the checks do not read the rate, and the effect passes it through. -/
theorem rateChangesNoFrame : Obligations.RateChangesNoFrame := by
  intro i s t f hi hr hexec
  obtain ⟨hw, ha, hb⟩ := exec_next_admitted hi hexec
  rw [exec_ready i s hi hw ha hb] at hexec
  obtain rfl := Host.Outcome.next.inj hexec
  rw [exec_ready i { s with spiHz := f } hi hw ha hb, effect_at_rate hr]

end Sys2Proof
end

section
/-! Proofs about what the peer has been sent and about the waits (spec/10_state.md R44 to R49;
spec/43_pixel_stream.md R181; spec/70_reset_and_hazards.md R250, R262). -/

namespace Sys2Proof.Machine

open Safety

/-! ### The trace of a completed instruction -/

/-- An admitted instruction that sends synchronous frames only appends their events. -/
theorem exec_ready_trace {i : Instr} {s : State} (hw : wellFormed i = true) (hs : Ready s)
    (hp : asyncPayload i = none) (hf : syncFrames i ≠ []) :
    ∃ t, exec i s = .next t ∧ t.trace = s.trace ++ syncEvents (syncFrames i) := by
  have hi : i ≠ .init := by
    rintro rfl
    exact hf rfl
  refine ⟨_, exec_ready i s hi hw hs.1 hs.2, ?_⟩
  obtain ⟨hz, rfl, -⟩ | ⟨data, hdata, -⟩ | ⟨-, -, heq⟩ := effect_cases i hi s
  · exact absurd rfl hf
  · simp [hp] at hdata
  · rw [heq]
    rfl

/-- A first `init` appends its events. -/
theorem exec_init_first_trace {s : State} (ha : s.drvState ≠ .active) :
    ∃ t, exec .init s = .next t ∧ t.trace = s.trace ++ initEvents :=
  ⟨_, exec_init_first_afterInit s ha, rfl⟩

/-! ### The views of the frames sent -/

/-- The peer's registers after frames that are complete: each writes in turn (R44). -/
def PeerRegs.afterFrames (p : PeerRegs) (fs : List (Byte × Half × List Byte)) : PeerRegs :=
  fs.foldl (fun p f => p.frame f.1 f.2.2) p

theorem peerRegs_append_syncEvents (tr : List Event) (fs : List (Byte × Half × List Byte)) :
    peerRegs (tr ++ syncEvents fs) = (peerRegs tr).afterFrames fs := by
  induction fs generalizing tr with
  | nil => simp [syncEvents, PeerRegs.afterFrames]
  | cons f rest ih =>
    have hfirst : peerRegs (tr ++ syncFrame f.1 f.2.1 f.2.2) = (peerRegs tr).frame f.1 f.2.2 := by
      rw [peerRegs, peerView_append, peerView_syncFrame]
      rfl
    rw [syncEvents_cons, ← List.append_assoc, ih, hfirst]
    rfl

theorem wire_syncEvents_length (fs : List (Byte × Half × List Byte)) :
    (wire (syncEvents fs)).length = (fs.map fun f => f.2.2.length + 1).sum := by
  induction fs with
  | nil => rfl
  | cons f rest ih =>
    rw [syncEvents_cons, wire_append, List.length_append, ih, wire_syncFrame]
    rfl

/-- An admitted instruction that sends synchronous frames only writes their registers. -/
theorem exec_ready_peerRegs {i : Instr} {s : State} (hw : wellFormed i = true) (hs : Ready s)
    (hp : asyncPayload i = none) (hf : syncFrames i ≠ []) :
    ∃ t, exec i s = .next t ∧ peerRegs t.trace = (peerRegs s.trace).afterFrames (syncFrames i) := by
  obtain ⟨t, ht, htr⟩ := exec_ready_trace hw hs hp hf
  exact ⟨t, ht, by rw [htr, peerRegs_append_syncEvents]⟩

/-- The two address-set frames write the window, each coordinate with the high byte 0 (R47). -/
theorem afterFrames_setDrawWindow (p : PeerRegs) (r : Rect) :
    p.afterFrames (syncFrames (.setDrawWindow r)) = { p with
      xs := some (0#8 ++ r.topLeft.x), xe := some (0#8 ++ r.bottomRight.x)
      ys := some (0#8 ++ r.topLeft.y), ye := some (0#8 ++ r.bottomRight.y) } := by
  simp only [syncFrames, coordBytes_eq]
  rfl

/-- CLEAR_SCREEN's frames are those of the full window and a RAM write (R180, R181). -/
theorem afterFrames_clearScreen (p : PeerRegs) (c : Half) :
    p.afterFrames (syncFrames (.clearScreen c)) =
      p.afterFrames (syncFrames (.setDrawWindow fullRect)) :=
  frame_ramwr (p.afterFrames (syncFrames (.setDrawWindow fullRect))) (constPixels c)

theorem constPixels_length (c : Half) : (constPixels c).length = 40960 := by
  rw [constPixels, rep_length, colourBytes_eq]
  rfl

/-- CLEAR_SCREEN puts 5 bytes on the wire for each address-set frame and 40961 for the RAM write. -/
theorem wire_clearScreen_length (c : Half) :
    (wire (syncEvents (syncFrames (.clearScreen c)))).length = 40971 := by
  simp [wire_syncEvents_length, syncFrames, coordBytes_eq, constPixels_length]

/-- R250: 200 ms for each level of the reset pulse, 150 ms and 200 ms after two of the frames. -/
theorem waitTotal_initEvents : waitTotal initEvents = 750 := by
  simp [initEvents, waitTotal_append, waitTotal_syncFrame, waitTotal]

/-- R262, D12: both flags wait 200 ms. -/
theorem waitTotal_setSleep (flag : Bool) :
    waitTotal (syncEvents (syncFrames (.setSleep flag))) = 200 := by
  cases flag <;> rfl

end Sys2Proof.Machine

namespace Sys2Proof

open Machine

/-- Settles O50: the view of the events of `init` is the same whatever the peer held before. -/
theorem peerRegistersAfterInit : Obligations.PeerRegistersAfterInit := by
  intro s ha
  obtain ⟨t, ht, htr⟩ := exec_init_first_trace ha
  refine ⟨t, ht, ?_⟩
  rw [htr, peerRegs, peerView_append, peerView_initEvents]

/-- Settles O51: the operation's two frames write the four window registers. -/
theorem peerWindowFollowsTheRequest : Obligations.PeerWindowFollowsTheRequest := by
  intro r s hw hs
  rw [← afterFrames_setDrawWindow]
  exact exec_ready_peerRegs (i := .setDrawWindow r) hw hs rfl nofun

/-- Settles O52: of the three frames the window's two write the registers; their bytes and those of
the RAM write are counted. -/
theorem clearScreenLeavesTheFullWindow : Obligations.ClearScreenLeavesTheFullWindow := by
  intro c s hs
  obtain ⟨t, ht, htr⟩ := exec_ready_trace (i := .clearScreen c) rfl hs rfl nofun
  refine ⟨t, ht, ?_, ?_⟩
  · rw [htr, peerRegs_append_syncEvents, afterFrames_clearScreen, afterFrames_setDrawWindow]
    rfl
  · rw [htr, wire_append, List.length_append, wire_clearScreen_length]

/-- Settles O53: the software-reset frame leaves no register with a value, and neither does the low
level of the reset pin. -/
theorem peerResetLeavesNoValue : Obligations.PeerResetLeavesNoValue := by
  refine ⟨fun delay s hs => exec_ready_peerRegs (i := .swreset delay) rfl hs rfl nofun, fun tr => ?_⟩
  rw [peerRegs, peerView_append]
  rfl

/-- Settles O54: the one frame of each operation writes the bit its opcode stands for. -/
theorem sleepAndDisplayReachThePeer : Obligations.SleepAndDisplayReachThePeer := by
  intro flag s hs
  have hsleep := exec_ready_peerRegs (i := .setSleep flag) rfl hs rfl nofun
  have hdisplay := exec_ready_peerRegs (i := .setDisplayEnabled flag) rfl hs rfl nofun
  cases flag <;> exact ⟨hsleep, hdisplay⟩

/-- Settles O56: the waits of a trace add up over what is appended, the events of `init` or the one
frame of SET_SLEEP. -/
theorem waitsOfInitAndSleep : Obligations.WaitsOfInitAndSleep := by
  refine ⟨fun s ha => ?_, fun flag s hs => ?_⟩
  · obtain ⟨t, ht, htr⟩ := exec_init_first_trace ha
    exact ⟨t, ht, by rw [htr, waitTotal_append, waitTotal_initEvents]⟩
  · obtain ⟨t, ht, htr⟩ := exec_ready_trace (i := .setSleep flag) rfl hs rfl nofun
    exact ⟨t, ht, by rw [htr, waitTotal_append, waitTotal_setSleep]⟩

end Sys2Proof
end
